-- ==== Sys2Proof/Word.lean ====
section
/-! DEFINITION. The plain words of the UW-640: octets, day numbers, pupil references, small sets of
numbered things, and the reading and writing of one place of a fixed table. -/

namespace Sys2Proof

/-- One octet of a link frame (R161). -/
abbrev Octet := BitVec 8

/-- A day number, 0 to 65535, whose successor of 65535 is 0 (R1). -/
abbrev DayNumber := BitVec 16

/-- A pupil reference: a 32-bit number, 0 meaning no pupil (00_scope, Identifiers; R62). -/
abbrev PupilRef := BitVec 32

/-- A subset of eight numbered things, bit n standing for number n: zones, groups, cohorts. -/
abbrev EightSet := BitVec 8

/-- A subset of the routes 1 to 31, bit n standing for route n (R115). -/
abbrev RouteSet := BitVec 32

/-- One of the six link ports L0 to L5 (R160). -/
abbrev PortId := Fin 6

/-- One of the eight bell zones Z0 to Z7 (R49). -/
abbrev Zone := Fin 8

/-- Division rounded up, the "ceil" of 00_scope's Arithmetic. -/
def ceilDiv (a b : Nat) : Nat := (a + b - 1) / b

/-- An addition that stays at its largest value ("saturates", 00_scope). -/
def satAdd (top a b : Nat) : Nat := min top (a + b)

/-- Place `i` of a fixed table, or `d` outside it. -/
def nth {α : Type} {n : Nat} (v : Vector α n) (d : α) (i : Nat) : α :=
  if h : i < n then v[i] else d

/-- The fixed table `v` with place `i` replaced, unchanged when there is no place `i`. -/
def setNth {α : Type} {n : Nat} (v : Vector α n) (i : Nat) (x : α) : Vector α n :=
  if h : i < n then v.set i x else v

/-- The fixed table whose place `i` is `f i` of the old one. -/
def mapNth {α β : Type} {n : Nat} (f : Fin n → α → β) (v : Vector α n) : Vector β n :=
  Vector.ofFn fun i => f i v[i]

/-- The set holding number `i` alone. -/
def only (w i : Nat) : BitVec w := BitVec.twoPow w i

end Sys2Proof
end

