-- ==== Sys2Proof/Syntax.lean ====
section
/-! DEFINITION. The commands of the UW-640: one constructor of `Instr` for each row of
spec/opcode_table.json, with the fields a request carries or the choice an event leaves open. -/

namespace Sys2Proof

/-- The role a port is strapped to (R160). -/
inductive Role where
  | none | records | desk | terminal | kiosk | gateway
deriving DecidableEq, Repr

inductive Session where
  | am | pm
deriving DecidableEq, Repr

/-- A subset of {AM, PM} (00_scope, Identifiers). -/
structure SessionSet where
  am : Bool
  pm : Bool
deriving DecidableEq, Repr

/-- NONE and the ten mark codes of the register (R78, "Marks and sources"). -/
inductive Mark where
  | none | blank | present | notSeen | late | lateClosed | excusedLate | notified | authorised
  | offsite | unexplained
deriving DecidableEq, Repr

/-- The sources of a proposal (R80). -/
inductive Source where
  | teacher | signin | notice | group | sweep | desk | signout | final
deriving DecidableEq, Repr

inductive NoticeKind where
  | absent | lateExpected
deriving DecidableEq, Repr

/-- The kinds of a timetable entry (R20). -/
inductive EntryKind where
  | registration | lesson | recess | lunch | assembly
deriving DecidableEq, Repr

/-- The bell pattern of an entry, a plan's end or a desk ring (R19, R20, R56). -/
inductive BellPattern where
  | none | short | long | pulsed
deriving DecidableEq, Repr

inductive PushMode where
  | timed | follow
deriving DecidableEq, Repr

inductive Channel where
  | text | voice
deriving DecidableEq, Repr

/-- The reasons a SIGN-OUT may carry (R113). -/
inductive SignOutReason where
  | appointment | family | activity | other
deriving DecidableEq, Repr

/-- The outcomes a MESSAGE-RESULT may carry (R137). -/
inductive Delivery where
  | delivered | noAnswer | badNumber | declined
deriving DecidableEq, Repr

/-- The today-override of a cohort: absent, NONE, or a plan number (R23). -/
inductive Override where
  | absent
  | noPlan
  | plan (number : Nat)
deriving DecidableEq, Repr

/-- The session tag an entry of a WRITE-PLAN carries: none, AM or PM, or a value that is neither. -/
inductive TagField where
  | absent
  | tag (session : Session)
  | unknown
deriving DecidableEq, Repr

/-- What every complete frame brings besides its request: the port it came in on, its frame tag,
and whether its payload length suits the kind's form with no list longer than its count allows
(R161, R163 check 3). -/
structure Frame where
  port : PortId
  tag : Octet
  suits : Bool
deriving DecidableEq, Repr

/-! A request field that must be one of a few stated values is an `Option`: `none` is a value that
is none of them, which the owner answers BAD_FIELD. -/

/-- One entry as WRITE-PLAN carries it (R20). -/
structure EntryReq where
  kind : Option EntryKind
  nominal : Nat
  floor : Nat
  compressible : Bool
  pattern : Option BellPattern
  zones : EightSet
  tag : TagField
  grace : Nat
deriving DecidableEq, Repr

/-- The fields of WRITE-PLAN (R21); no entries and a count of 0 ask that the plan be made invalid. -/
structure PlanReq where
  plan : Nat
  start : Nat
  count : Nat
  entries : List EntryReq
  endPattern : Option BellPattern
  endZones : EightSet
deriving DecidableEq, Repr

/-- One cohort record as WRITE-COHORTS carries it (R23). -/
structure CohortReq where
  cohort : Nat
  enabled : Bool
  weekdays : Vector Nat 7
  override : Override
deriving DecidableEq, Repr

/-- The eight fields of WRITE-SETTINGS (R27). -/
structure SettingsReq where
  autoOpen : Nat
  autoClose : Nat
  weekdayBase : Nat
  pushMode : Option PushMode
  pushLength : Nat
  pushZones : EightSet
  concern : Octet
  ignoreSoft : Bool
deriving DecidableEq, Repr

/-- The selector of READ-PLAN (R29). -/
inductive PlanSelector where
  | plan (number : Nat)
  | cohorts
  | settings
  | unknown
deriving DecidableEq, Repr

/-- The fields of SHIFT: a plan set, a delay and an early close in minutes (R38). -/
structure ShiftReq where
  plans : List Nat
  delay : Nat
  early : Nat
deriving DecidableEq, Repr

/-- The window a WRITE-QUIET carries (R53). -/
inductive QuietReq where
  | empty
  | clock (first last : Nat) (zones : EightSet)
  | anchored (plan first last : Nat) (zones : EightSet)
  | unknown
deriving DecidableEq, Repr

/-- One contact as WRITE-PUPIL carries it (R64). -/
structure ContactReq where
  contact : Nat
  channel : Option Channel
deriving DecidableEq, Repr

/-- The fields of WRITE-PUPIL (R64). -/
structure PupilReq where
  slot : Nat
  ref : PupilRef
  card : Nat
  cohort : Nat
  tutor : Nat
  route : Nat
  contacts : List ContactReq
  groups : EightSet
deriving DecidableEq, Repr

/-- A valid card window (R71). -/
structure CardWindow where
  base : Nat
  mask : Nat
  slotBase : Nat
deriving DecidableEq, Repr

/-- The selector of READ-PUPIL (R76). -/
inductive PupilSelector where
  | slot (slot : Nat)
  | list (start : Nat)
  | reference (ref : PupilRef)
  | card (card : Nat)
  | windows
  | unknown
deriving DecidableEq, Repr

/-- The notice kind and reason a DESK MARK of NOTIFIED may carry (R88). -/
structure MarkNotice where
  kind : Option NoticeKind
  reason : Nat
deriving DecidableEq, Repr

/-- The fields of MARK (R88); `notice` is absent when the request carries no notice fields. -/
structure MarkReq where
  ref : PupilRef
  session : Option Session
  mark : Option Mark
  notice : Option MarkNotice
deriving DecidableEq, Repr

/-- The fields of GROUP-MARK (R90). -/
structure GroupMarkReq where
  groups : EightSet
  cohorts : EightSet
  sessions : SessionSet
  mark : Option Mark
deriving DecidableEq, Repr

/-- The filter of a READ-REGISTER LIST: one session and a set of marks (R95). -/
structure RegisterFilter where
  session : Option Session
  marks : List Mark
deriving DecidableEq, Repr

/-- The selector of READ-REGISTER (R95). -/
inductive RegisterSelector where
  | slot (slot : Nat)
  | reference (ref : PupilRef)
  | list (start : Nat) (filter : Option RegisterFilter)
  | summary
  | unknown
deriving DecidableEq, Repr

/-- The fields of SIGN-IN: by card from a kiosk, by reference from the desk (R99). -/
inductive SignInReq where
  | byCard (card : Nat) (retry : Bool)
  | byReference (ref : PupilRef)
deriving DecidableEq, Repr

/-- The fields of SIGN-OUT (R113). -/
structure SignOutReq where
  ref : PupilRef
  reason : Option SignOutReason
  returning : Bool
deriving DecidableEq, Repr

/-- The fields of ROUTE-HOLD (R110). -/
structure RouteHoldReq where
  route : Nat
  minutes : Nat
deriving DecidableEq, Repr

/-- The fields of NOTICE (R126); `otherSessions` says that its session set names anything but AM
and PM. -/
structure NoticeReq where
  ref : PupilRef
  contact : BitVec 16
  kind : Option NoticeKind
  reason : Nat
  sessions : SessionSet
  otherSessions : Bool
  firstDay : DayNumber
  lastDay : DayNumber
deriving DecidableEq, Repr

/-- The selector of READ-TOTALS (R152). -/
inductive TotalsSelector where
  | slot (slot : Nat)
  | reference (ref : PupilRef)
  | list (start : Nat) (least : Option Nat)
  | unknown
deriving DecidableEq, Repr

/-- What ACCOUNT names (R158). -/
inductive AccountReq where
  | slot (slot : Nat)
  | tutor (group : Nat)
deriving DecidableEq, Repr

/-- The four octets a receiver gathers as a header: kind, frame tag, length, header check (R161). -/
structure Header where
  kind : Octet
  tag : Octet
  length : Octet
  check : Octet
deriving DecidableEq, Repr

/-- The block whose call list addition is taken: the Day Register's or the Term Accumulators'
(R140). -/
inductive Caller where
  | dayRegister | termAccumulators
deriving DecidableEq, Repr

/-- The requests of the kind-and-role table (R163). -/
inductive Kind where
  | readTime | setTime | dayOpen | dayClose | restart
  | writePlan | readPlan | writeCohorts | writeSettings
  | shift | readTimetable | writeQuiet | ring
  | writePupil | clearPupil | readPupil | writeWindow
  | mark | groupMark | readRegister | readChanges
  | signIn | signOut | routeHold
  | notice | takeMessage | messageResult | readStanding | cancelStanding | readCalls
  | confirmNotice | clearCall
  | readTotals | termReset | readRoll | account | rollClose
  | setReplyLimit | linkStatus | portPark | portRelease | portCycle | readFaults | clearFaults
deriving DecidableEq, Repr

/-- The commands of the part, one for each row of spec/opcode_table.json. A request stands for a
complete frame carrying it; an event stands for one step of a block. Where the manual lets two
things that meet inside one step be taken in either order, the command carries the order
(notes/assumptions/14). -/
inductive Instr where
  -- lines and clock
  | powerOnReset (straps : Vector (BitVec 3) 6) (retainOk : Bool)
  | resetNLow
  /-- `bellsFirst`: the Bell Unit takes the second event before the bell requests raised with it,
  all of them; clear, it takes them all before the second event (R50; notes/assumptions/14). -/
  | secondEvent (bellsFirst : Bool)
  | bellCountExpiry (zone : Zone)
  | pushAssert
  | pushRelease
  | pushLimitExpiry
  | alarmAssert
  | alarmRelease
  -- the school day
  | readTime (frame : Frame)
  | setTime (frame : Frame) (time : Nat) (day : DayNumber) (weekdayBase : Nat)
  | dayOpen (frame : Frame)
  | dayClose (frame : Frame)
  | restart (frame : Frame)
  | restartEffect
  | openWalkVisit
  /-- `order`: which of the things still waiting (held requests, then a pending close) is taken at
  each turn, as a place in the list of those left; the first when the list has no such place
  (R11). -/
  | openWalkComplete (order : List Nat)
  | closeWalkVisit
  /-- `order`: as for `openWalkComplete`, for the requests held during CLOSING (R15). -/
  | closeWalkComplete (order : List Nat)
  -- day plans and cohorts
  | writePlan (frame : Frame) (req : PlanReq)
  | writeCohorts (frame : Frame) (records : List CohortReq)
  | writeSettings (frame : Frame) (req : SettingsReq)
  | readPlan (frame : Frame) (selector : PlanSelector) (start : Nat)
  -- timetable compression
  | shift (frame : Frame) (req : ShiftReq)
  | recomputePassComplete (plan : Nat)
  | swap
  | readTimetable (frame : Frame) (plan start : Nat)
  -- bells
  | writeQuiet (frame : Frame) (number : Nat) (window : QuietReq)
  | ring (frame : Frame) (zones : EightSet) (pattern : Option BellPattern)
  -- the pupil table
  | writePupil (frame : Frame) (req : PupilReq)
  | clearPupil (frame : Frame) (slot : Nat) (ref : PupilRef)
  | writeWindow (frame : Frame) (number : Nat) (window : Option CardWindow)
  | readPupil (frame : Frame) (selector : PupilSelector)
  -- the day register and its walker
  | mark (frame : Frame) (req : MarkReq)
  | groupMark (frame : Frame) (req : GroupMarkReq)
  | sessionSweepVisit
  | routeSweepVisit
  | groupWalkVisit
  | walkComplete
  | readRegister (frame : Frame) (selector : RegisterSelector)
  | readChanges (frame : Frame)
  -- late arrivals
  | signIn (frame : Frame) (req : SignInReq)
  | signOut (frame : Frame) (req : SignOutReq)
  | routeHold (frame : Frame) (req : RouteHoldReq)
  | routeHoldExpiry (route : Nat)
  -- parent messages
  | notice (frame : Frame) (req : NoticeReq)
  | raiseAlert
  | leaveUnexplained
  | alertStateReport
  | takeMessage (frame : Frame)
  | messageResult (frame : Frame) (tag : Nat) (outcome : Option Delivery)
  | handoverTimeout (tag : Nat)
  | readStanding (frame : Frame) (start : Nat)
  | cancelStanding (frame : Frame) (ref : PupilRef)
  | callListAdd (caller : Caller)
  | readCalls (frame : Frame) (start : Nat)
  | clearCall (frame : Frame) (slot : Nat)
  /-- `conflictFirst`: the Message Unit takes the NOTICE_CONFLICT addition this request causes
  before it removes NOTICE_UNVERIFIED (R142). -/
  | confirmNotice (frame : Frame) (slot : Nat) (conflictFirst : Bool)
  -- term accumulators
  | latenessAccrual
  | openMinutesAccrual
  | fold
  | readTotals (frame : Frame) (selector : TotalsSelector)
  | termReset (frame : Frame)
  -- site roll
  | rollBuildVisit
  | rollBuildComplete
  | presenceChange
  | readRoll (frame : Frame) (start : Nat)
  | account (frame : Frame) (req : AccountReq)
  | rollClose (frame : Frame)
  -- link ports
  | frameHeaderFault (port : PortId) (header : Header)
  /-- `octets`: the frame from its kind to the end of its payload; `crc`: the CRC it carried. -/
  | frameCheckFault (port : PortId) (octets : List Octet) (crc : BitVec 16)
  | receiveGapTimeout (port : PortId)
  | frameOverlap (port : PortId)
  | unknownKindFrame (port : PortId) (kind tag : Octet)
  | replyComplete (port : PortId)
  | setReplyLimit (frame : Frame) (octets : Nat)
  | linkStatus (frame : Frame)
  | portPark (frame : Frame) (target : Nat)
  | portRelease (frame : Frame) (target : Nat)
  | portCycle (frame : Frame) (target : Nat)
  | portCycleEnd (port : PortId)
  | readFaults (frame : Frame)
  | clearFaults (frame : Frame)
  | syncOctet (port : PortId)
deriving DecidableEq, Repr

end Sys2Proof
end

