-- ==== Sys2Proof/Decode.lean ====
section
/-! DEFINITION. The kind octets of the kind-and-role table, and the command a word of the opcode
table spells. No row of spec/opcode_table.json gives bits, so no word spells a command. -/

namespace Sys2Proof

/-- The kind octet of a request (R163, Kinds and roles). -/
def Kind.octet : Kind → Octet
  | .readTime => 0x01 | .setTime => 0x02 | .dayOpen => 0x03 | .dayClose => 0x04
  | .restart => 0x05
  | .writePlan => 0x10 | .readPlan => 0x11 | .writeCohorts => 0x12 | .writeSettings => 0x13
  | .shift => 0x18 | .readTimetable => 0x19 | .writeQuiet => 0x1C | .ring => 0x1D
  | .writePupil => 0x20 | .clearPupil => 0x21 | .readPupil => 0x22 | .writeWindow => 0x23
  | .mark => 0x28 | .groupMark => 0x29 | .readRegister => 0x2A | .readChanges => 0x2B
  | .signIn => 0x30 | .signOut => 0x31 | .routeHold => 0x32
  | .notice => 0x38 | .takeMessage => 0x39 | .messageResult => 0x3A | .readStanding => 0x3B
  | .cancelStanding => 0x3C | .readCalls => 0x3D | .confirmNotice => 0x3E | .clearCall => 0x3F
  | .readTotals => 0x40 | .termReset => 0x41
  | .readRoll => 0x48 | .account => 0x49 | .rollClose => 0x4A
  | .setReplyLimit => 0x50 | .linkStatus => 0x51 | .portPark => 0x52 | .portRelease => 0x53
  | .portCycle => 0x54 | .readFaults => 0x55 | .clearFaults => 0x56

/-- Every request of the kind-and-role table, in the order of its kind octets. -/
def Kind.all : List Kind :=
  [.readTime, .setTime, .dayOpen, .dayClose, .restart,
   .writePlan, .readPlan, .writeCohorts, .writeSettings,
   .shift, .readTimetable, .writeQuiet, .ring,
   .writePupil, .clearPupil, .readPupil, .writeWindow,
   .mark, .groupMark, .readRegister, .readChanges,
   .signIn, .signOut, .routeHold,
   .notice, .takeMessage, .messageResult, .readStanding, .cancelStanding, .readCalls,
   .confirmNotice, .clearCall,
   .readTotals, .termReset, .readRoll, .account, .rollClose,
   .setReplyLimit, .linkStatus, .portPark, .portRelease, .portCycle, .readFaults, .clearFaults]

/-- The request a kind octet names, if the kind-and-role table has it (R163 check 1). -/
def kindOfOctet (kind : Octet) : Option Kind := Kind.all.find? fun k => k.octet == kind

/-- The roles that may send a request, as the kind-and-role table pairs them (R163 check 2). A NONE
port may send none. -/
def Kind.roles : Kind → List Role
  | .readTime | .setReplyLimit | .linkStatus => [.records, .desk, .terminal, .kiosk, .gateway]
  | .setTime | .restart | .writePlan | .writeCohorts | .writeSettings | .writePupil | .clearPupil
  | .writeWindow | .readChanges | .termReset => [.records]
  | .dayOpen | .dayClose | .readPlan | .writeQuiet | .readPupil | .readRegister | .readStanding
  | .cancelStanding | .readTotals | .portPark | .portRelease | .portCycle | .readFaults
  | .clearFaults => [.records, .desk]
  | .readTimetable => [.records, .desk, .terminal]
  | .mark => [.desk, .terminal]
  | .signIn => [.desk, .kiosk]
  | .shift | .ring | .groupMark | .signOut | .routeHold | .readCalls | .confirmNotice
  | .clearCall | .readRoll | .account | .rollClose => [.desk]
  | .notice | .takeMessage | .messageResult => [.gateway]

/-- Whether a port of this role may send the request. -/
def Kind.allows (k : Kind) (role : Role) : Bool := k.roles.contains role

/-- The command a word of the opcode table spells: none, since no row of the table gives bits. -/
def decodeTableWord (_nbits _w : Nat) : Option Instr := none

end Sys2Proof
end

