-- ==== Sys2Proof/Config.lean ====
section
/-! DEFINITION. The sizes the manual fixes, and the sizes it leaves open. -/

namespace Sys2Proof.Config

/-- Slots of the Pupil Table (R62). -/
def slots : Nat := 2048

/-- Entries of the amendment list (R92). -/
def amendmentPlaces : Nat := 256

/-- Entries of the standing notice list (R125). -/
def standingPlaces : Nat := 64

/-- Entries of the outbound queue (R131). -/
def outboundPlaces : Nat := 192

/-- Entries the gateway may hold at once (R135). -/
def handedPlaces : Nat := 8

/-- Entries of the call list (R140). -/
def callPlaces : Nat := 96

/-- Seconds the gateway has to report on a message (R139). -/
def handoverSeconds : Nat := 900

/-- The last running minute a table may reach (R33, R39). -/
def lastRunningMinute : Nat := 2879

/-- REFCLK cycles in the 2 s of a port cycle (R168, R1). -/
def cycleCycles : Nat := 65536

/-- The most octets a payload holds (R161, R165). -/
def payloadOctets : Nat := 240

/-- Free value (notes/assumptions/15): how many octets the fixed fields of a list reply take, the
reply head among them. R171 lays out none; R165 holds a payload to 240. The argument tells the list
replies apart, by its type or by the kind of the reply, so that no two of them are made to agree. -/
opaque fixedOctets {α : Type} (fixed : α) : Fin (payloadOctets + 1)

/-- Free value (notes/assumptions/15): how many octets an item of a list reply takes, beside fixed
fields of some octets. R171 lays out no list item; R165 keeps the fixed fields and one item within
240. -/
opaque itemOctets {α : Type} (fixed : Nat) (item : α) : Fin (payloadOctets - fixed + 1)

/-- Free value (notes/assumptions/35): the day number sent beside an absent time of day. R171 gives
the octets of the absent time alone. -/
opaque absentDay : DayNumber

end Sys2Proof.Config
end

