-- ==== Sys2Proof/Machine/Records.lean ====
section
/-! DEFINITION. The records the blocks of the UW-640 hold, each as the chapter that owns it gives
them, and the messages one block has made and another has not yet taken. -/

namespace Sys2Proof.Machine

open Sys2Proof

/-- A time of day with the clock's day number (R78). -/
structure Stamp where
  time : Nat
  day : DayNumber
deriving DecidableEq, Repr

/-! ### School Clock and day state -/

/-- The School Clock (R1). -/
structure Clock where
  time : Nat
  day : DayNumber
  subSecond : Nat
  valid : Bool
deriving DecidableEq, Repr

inductive DayState where
  | closed | opening | open | closing
deriving DecidableEq, Repr

/-- The requests a block may hold until the day is OPEN or CLOSED, or until the swap (R13, R44). -/
inductive Holdable where
  | mark (req : MarkReq)
  | groupMark (req : GroupMarkReq)
  | signIn (req : SignInReq)
  | signOut (req : SignOutReq)
  | routeHold (req : RouteHoldReq)
  | shift (req : ShiftReq)
  | notice (req : NoticeReq)
  | confirmNotice (slot : Nat) (conflictFirst : Bool)
  | readRegister (selector : RegisterSelector)
  | readChanges
  | readTimetable (plan start : Nat)
deriving DecidableEq, Repr

/-- A held request and the port it occupies (R13). -/
structure Held where
  port : PortId
  request : Holdable
deriving DecidableEq, Repr

/-- The day state record (R8), with what an opening fixes and the replies it owes: each cohort's
plan for today (R10), the ports whose DAY-OPEN or DAY-CLOSE reply is held (R9, R12), and the
requests held by the day state, in the order they were held (R13). -/
structure DayRecord where
  state : DayState
  opened : Option DayNumber
  register : Option DayNumber
  closeTime : Option Stamp
  closePending : Bool
  plans : Vector (Option Nat) 8
  openPort : Option PortId
  closePort : Option PortId
  held : List Held
deriving DecidableEq, Repr

/-! ### Plan Store -/

/-- A stored timetable entry (R20). -/
structure Entry where
  kind : EntryKind
  nominal : Nat
  floor : Nat
  compressible : Bool
  pattern : BellPattern
  zones : EightSet
  tag : Option Session
  grace : Option Nat
deriving DecidableEq, Repr

/-- What a valid day plan holds (R19). -/
structure PlanBody where
  start : Nat
  entries : List Entry
  endPattern : BellPattern
  endZones : EightSet
deriving DecidableEq, Repr

/-- A day plan (R19): its valid flag is that it has a body. -/
structure DayPlan where
  revision : Nat
  body : Option PlanBody
deriving DecidableEq, Repr

/-- A cohort record (R23). -/
structure Cohort where
  enabled : Bool
  weekdays : Vector Nat 7
  override : Override
deriving DecidableEq, Repr

/-- The day settings record (R27). -/
structure Settings where
  autoOpen : Nat
  autoClose : Nat
  weekdayBase : Nat
  pushMode : PushMode
  pushLength : Nat
  pushZones : EightSet
  concern : Nat
  ignoreSoft : Bool
deriving DecidableEq, Repr

/-- The Plan Store: plan n stands at place n - 1 (R19, R23, R27). -/
structure PlanStore where
  plans : Vector DayPlan 8
  cohorts : Vector Cohort 8
  settings : Settings
deriving DecidableEq, Repr

/-! ### Timetable Engine -/

/-- An entry of an effective timetable (R31). -/
structure EffEntry where
  entry : Entry
  start : Nat
  length : Nat
  begun : Bool
deriving DecidableEq, Repr

/-- A session record of an effective timetable (R31): `fixedClose` is the close minute once
close-fixed is set, and is absent while close-fixed is clear. -/
structure SessionRecord where
  fixedClose : Option Nat
  raised : Bool
deriving DecidableEq, Repr

inductive PlanState where
  | waiting | running | ended
deriving DecidableEq, Repr

/-- An effective timetable (R31). -/
structure PlanTable where
  plan : Nat
  entries : List EffEntry
  endPattern : BellPattern
  endZones : EightSet
  effEnd : Nat
  delayTotal : Nat
  earlyTotal : Nat
  shortTotal : Nat
  state : PlanState
  am : Option SessionRecord
  pm : Option SessionRecord
deriving DecidableEq, Repr

/-- The figures a SHIFT reply carries for one plan of its set (R38). -/
structure ShiftFigures where
  plan : Nat
  inUse : Bool
  delayApplied : Nat
  early : Nat
  cut : Nat
  cutTotal : Nat
  shortfall : Nat
  newEnd : Nat
  delayTotal : Nat
  earlyTotal : Nat
  shortTotal : Nat
deriving DecidableEq, Repr

/-- What a completed pass leaves: the new table, the figures, and whether the delay was reduced
(R39 to R42). -/
structure PassResult where
  table : PlanTable
  figures : ShiftFigures
  reduced : Bool
deriving DecidableEq, Repr

/-- One plan's computation in a recompute (R45): the committed table as it stood when the pass
started, and its result once the pass has completed. -/
structure Pass where
  plan : Nat
  base : PlanTable
  result : Option PassResult
deriving DecidableEq, Repr

/-- A recompute in flight (R44): the port of its SHIFT, the delay and early close as taken after the
clamping of R38 and whether that clamping changed either, the figures of the plans of the set that
did not join, whether one of those had its delay reduced, and a pass for each plan that joined. -/
structure Recompute where
  port : PortId
  delay : Nat
  early : Nat
  adjusted : Bool
  settled : List ShiftFigures
  passes : List Pass
deriving DecidableEq, Repr

/-- The Timetable Engine (R31, R33, R44): tables in ascending plan order. -/
structure Timetable where
  tables : List PlanTable
  current : Option Nat
  recompute : Option Recompute
  held : List Held
deriving DecidableEq, Repr

/-! ### Bell Unit -/

inductive LinePattern where
  | short | long | pulsed | continuous
deriving DecidableEq, Repr

/-- A bell line record (R49): pattern, seconds left and follow stand only while SOUNDING. -/
inductive BellLine where
  | silent
  | sounding (pattern : LinePattern) (left : Nat) (follow : Bool)
deriving DecidableEq, Repr

/-- A quiet window (R53). -/
inductive QuietWindow where
  | empty
  | clock (first last : Nat) (zones : EightSet)
  | anchored (plan first last : Nat) (zones : EightSet)
deriving DecidableEq, Repr

/-- The push state (R57), with the zones and limit it holds while FOLLOWING (R58). -/
inductive PushState where
  | released
  | held
  | following (zones : EightSet) (limit : Nat)
deriving DecidableEq, Repr

/-- The Bell Unit (R49, R53, R57, R60). -/
structure BellUnit where
  lines : Vector BellLine 8
  quiet : Vector QuietWindow 8
  push : PushState
  alarm : Bool
deriving DecidableEq, Repr

/-! ### Pupil Table -/

structure Contact where
  contact : Nat
  channel : Channel
deriving DecidableEq, Repr

/-- The fields of an ENROLLED pupil record (R62). -/
structure Pupil where
  ref : PupilRef
  card : Nat
  cohort : Nat
  tutor : Nat
  route : Nat
  contacts : List Contact
  groups : EightSet
deriving DecidableEq, Repr

/-- Records by slot, in one canonical form: slots strictly rising, and no entry equal to what an
unlisted slot reads as. -/
abbrev SlotTable (α : Type) := List (Nat × α)

/-- The Pupil Table (R62, R71): an unlisted slot is EMPTY, and a window that is absent is not
valid. -/
structure PupilTable where
  pupils : SlotTable (Option Pupil)
  windows : Vector (Option CardWindow) 8
deriving DecidableEq, Repr

/-! ### Day Register -/

inductive Presence where
  | unknown | onSite | offSite
deriving DecidableEq, Repr

inductive AlertState where
  | none | queued | handed | delivered | exhausted | unsent | withdrawn | corrected
deriving DecidableEq, Repr

/-- A notice kind and its reason (R78). -/
structure NoticeMark where
  kind : NoticeKind
  reason : Nat
deriving DecidableEq, Repr

/-- The per-session fields of a register record (R78). -/
structure SessionMarks where
  mark : Mark
  lastSource : Option Source
  lastChange : Option Stamp
  notice : Option NoticeMark
  since : Option Stamp
  expectedLate : Bool
  trailGap : Bool
deriving DecidableEq, Repr

/-- A register record (R78). -/
structure RegisterRecord where
  am : SessionMarks
  pm : SessionMarks
  presence : Presence
  signIn : Option Stamp
  minutesLate : Option Nat
  confirmed : Bool
  signOut : Option Stamp
  returning : Bool
  alert : AlertState
deriving DecidableEq, Repr

/-- An entry of the amendment list (R92). -/
structure Amendment where
  slot : Nat
  session : Session
  old : Mark
  new : Mark
  source : Source
  stamp : Stamp
deriving DecidableEq, Repr

inductive GroupState where
  | none | queued | running | done | stopped
deriving DecidableEq, Repr

/-- What a taken GROUP-MARK asked for (R90). -/
structure GroupContents where
  groups : EightSet
  cohorts : EightSet
  sessions : SessionSet
  mark : Mark
deriving DecidableEq, Repr

/-- The group-mark outcome record (R90). -/
structure GroupOutcome where
  state : GroupState
  contents : Option GroupContents
  applied : Nat
  held : Nat
  skipped : Nat
deriving DecidableEq, Repr

/-- A session sweep item (R115). -/
structure SessionItem where
  plan : Nat
  session : Session
  due : Stamp
deriving DecidableEq, Repr

/-- A route sweep item (R115). -/
structure RouteItem where
  routes : RouteSet
  due : Stamp
deriving DecidableEq, Repr

/-- A group-mark item (R115). -/
structure GroupItem where
  contents : GroupContents
  due : Stamp
deriving DecidableEq, Repr

inductive WalkItem where
  | session (item : SessionItem)
  | route (item : RouteItem)
  | group (item : GroupItem)
deriving DecidableEq, Repr

/-- A walk in hand (R115, R124). -/
inductive Walk where
  | openWalk
  | closeWalk
  | item (item : WalkItem)
deriving DecidableEq, Repr

/-- The register walker and its queue (R115). With a walk in hand, `cursor` is the slot it will
visit next, and 2048 when every slot has been visited and the completion is still to be taken; it
is 0 while no walk is in hand. -/
structure Walker where
  hand : Option Walk
  cursor : Nat
  alarm : Bool
  sessions : List SessionItem
  route : Option RouteItem
  group : Option GroupItem
deriving DecidableEq, Repr

/-- The Day Register (R78, R89, R90, R92, R93): the closed flags of plan n stand at place n - 1, and
an unlisted slot's record is the reset record with both marks NONE. -/
structure DayRegister where
  records : SlotTable RegisterRecord
  amendments : List Amendment
  lost : Nat
  closed : Vector SessionSet 8
  group : GroupOutcome
  walker : Walker
deriving DecidableEq, Repr

/-! ### Arrivals Unit -/

/-- The fields of an active route hold record (R109). -/
structure RouteHold where
  declared : Stamp
  expiry : Stamp
deriving DecidableEq, Repr

/-- The Arrivals Unit (R109): an unlisted route is inactive. `waits` holds the routes redeclared,
since the last second event, with an expiry already past: their holds end no sooner than the next
second event (R111). -/
structure Arrivals where
  holds : SlotTable (Option RouteHold)
  waits : RouteSet
deriving DecidableEq, Repr

/-! ### Message Unit -/

/-- An entry of the standing notice list (R125). -/
structure Standing where
  slot : Nat
  kind : NoticeKind
  reason : Nat
  sessions : SessionSet
  firstDay : DayNumber
  lastDay : DayNumber
  contact : Nat
  storedAt : Stamp
deriving DecidableEq, Repr

inductive OutboundKind where
  | alert | correction
deriving DecidableEq, Repr

/-- What an outbound entry holds while HANDED (R131). -/
structure Handed where
  tag : Nat
  time : Stamp
  afterClose : Bool
deriving DecidableEq, Repr

/-- An entry of the outbound queue (R131): QUEUED while `handed` is absent. -/
structure Outbound where
  kind : OutboundKind
  slot : Nat
  sessions : SessionSet
  followOn : SessionSet
  recalled : Bool
  contactIndex : Nat
  attempts : Nat
  queuedTime : Stamp
  place : Nat
  handed : Option Handed
  arrival : Option Stamp
deriving DecidableEq, Repr

/-- The reason set of a call list entry (R140). -/
structure CallReasons where
  noContact : Bool
  exhausted : Bool
  queueFull : Bool
  noticeUnverified : Bool
  noticeConflict : Bool
  concern : Bool
deriving DecidableEq, Repr

/-- A notice held on the call list until the desk confirms it (R126, R140). -/
structure HeldNotice where
  kind : NoticeKind
  reason : Nat
  sessions : SessionSet
  firstDay : DayNumber
  lastDay : DayNumber
  contact : Nat
deriving DecidableEq, Repr

/-- An entry of the call list (R140). -/
structure CallEntry where
  slot : Nat
  reasons : CallReasons
  firstTime : Stamp
  notice : Option HeldNotice
deriving DecidableEq, Repr

/-- The Message Unit (R125, R131, R136, R140). -/
structure MessageUnit where
  standing : List Standing
  outbound : List Outbound
  tagCounter : Nat
  calls : List CallEntry
deriving DecidableEq, Repr

/-! ### Term Accumulators -/

/-- The limit set: which of the seven fields have met their limit (R145). -/
structure LimitSet where
  possible : Bool
  attended : Bool
  late : Bool
  timedLate : Bool
  lateMinutes : Bool
  unexplained : Bool
  openMinutes : Bool
deriving DecidableEq, Repr

/-- An accumulator record (R145). -/
structure Accumulator where
  possible : Nat
  attended : Nat
  late : Nat
  timedLate : Nat
  lateMinutes : Nat
  unexplained : Nat
  openMinutes : Nat
  limits : LimitSet
  lastFold : Option DayNumber
deriving DecidableEq, Repr

/-- The Term Accumulators (R145): an unlisted slot's record is all zero. -/
structure Accumulators where
  records : SlotTable Accumulator
  termDays : Nat
deriving DecidableEq, Repr

/-! ### Site Roll -/

/-- The roll state (R154), with the build cursor while BUILDING (2048 when every slot has been
visited and the completion is still to be taken). -/
inductive RollState where
  | idle
  | building (cursor : Nat)
  | active
  | standing
deriving DecidableEq, Repr

/-- An entry of the roll list (R156). -/
structure RollEntry where
  slot : Nat
  cohort : Nat
  tutor : Nat
  accounted : Bool
  joiner : Bool
  departed : Bool
deriving DecidableEq, Repr

/-- The Site Roll (R154). -/
structure SiteRoll where
  alarm : Bool
  state : RollState
  entries : List RollEntry
deriving DecidableEq, Repr

/-! ### First-fault record -/

inductive FaultKind where
  | unknownCard | cardMismatch | cardRetry | queueFull | callListFull | standingFull
  | trailOverrun | gatewayTimeout
deriving DecidableEq, Repr

inductive FaultClass where
  | identity | capacity | messaging
deriving DecidableEq, Repr

/-- The slot or card field of a fault, with its card-held flag (first-fault record table). -/
inductive FaultSubject where
  | slot (slot : Nat)
  | card (card : Nat)
deriving DecidableEq, Repr

/-- The fields of a valid first-fault record (R169). -/
structure FaultRecord where
  kind : FaultKind
  port : Option PortId
  subject : Option FaultSubject
  time : Stamp
deriving DecidableEq, Repr

/-- The more flags, one for each class (R169). -/
structure MoreFlags where
  identity : Bool
  capacity : Bool
  messaging : Bool
deriving DecidableEq, Repr

/-! ### Messages in flight between blocks -/

/-- What the Day Register tells the Message Unit (R83): to raise an alert (R84), that a session has
left UNEXPLAINED with its new mark (R85), or to add a notice conflict to the call list (R82). Each
carries the pupil reference of its slot (R131, R140). -/
inductive ToMessages where
  | raise (slot : Nat) (ref : PupilRef) (session : Session)
  | leave (slot : Nat) (ref : PupilRef) (session : Session) (mark : Mark)
  | conflict (slot : Nat) (ref : PupilRef)
deriving DecidableEq, Repr

/-- A CONCERN addition the Term Accumulators have asked for (R150). -/
structure ConcernAdd where
  slot : Nat
  ref : PupilRef
deriving DecidableEq, Repr

/-- What the Day Register asks of the Term Accumulators (R148, R149). -/
inductive ToAccumulators where
  | openMinutes (slot : Nat) (ref : PupilRef) (minutes : Nat)
  | fold (slot : Nat) (ref : PupilRef) (day : DayNumber) (am pm : Mark)
deriving DecidableEq, Repr

/-- A lateness accrual the Arrivals Unit has asked for (R106). -/
structure LatenessAsk where
  slot : Nat
  ref : PupilRef
  confirmed : Bool
  minutes : Nat
deriving DecidableEq, Repr

/-- A presence change the Day Register has passed to the Site Roll (R79). -/
structure PresencePass where
  slot : Nat
  presence : Presence
deriving DecidableEq, Repr

/-- An alert state the Message Unit has reported to the Day Register (R132). -/
structure AlertReport where
  slot : Nat
  ref : PupilRef
  alert : AlertState
deriving DecidableEq, Repr

/-- The messages made and not yet taken, each list in the order they were made (R83, R132). -/
structure Wires where
  toMessages : List ToMessages
  concern : List ConcernAdd
  toAccumulators : List ToAccumulators
  lateness : List LatenessAsk
  toRoll : List PresencePass
  reports : List AlertReport
deriving DecidableEq, Repr

/-! ### Lines -/

/-- The levels of the input lines: RESET_N, PUSH, ALARM, RETAIN_OK and the role straps as last
sampled (00_scope, Lines; R17). -/
structure Lines where
  resetN : Bool
  push : Bool
  alarm : Bool
  retainOk : Bool
  straps : Vector (BitVec 3) 6
deriving DecidableEq, Repr

end Sys2Proof.Machine
end

