-- ==== Sys2Proof/Machine/Replies.lean ====
section
/-! DEFINITION. What a reply carries after its reply head, request by request, as the rule that owns
the request names its fields, and the port records of the Link Interface, which hold the reply a
port is sending. -/

namespace Sys2Proof.Machine

open Sys2Proof

/-- The status codes (R164). -/
inductive Status where
  | ok | held | refusedRole | badField | notFound | duplicate | full | busy | dayClosed
  | registerClosed | stale | noClock | unknownKind | notScheduled
deriving DecidableEq, Repr

/-- A link fault set (R160). -/
structure LinkFaults where
  header : Bool
  length : Bool
  check : Bool
  truncated : Bool
  overlap : Bool
deriving DecidableEq, Repr

/-- The reply head (R164). -/
structure ReplyHead where
  status : Status
  faults : LinkFaults
  discarded : Nat
  adjusted : Bool
  faultValid : Bool
deriving DecidableEq, Repr

/-- The names of the content checks a BAD_FIELD reply may carry (R21, R64, R126). -/
inductive CheckName where
  | range | floor | secondAm | secondPm | pmBeforeAm | pmWithoutAm | tooLong
  | referenceChange | past
deriving DecidableEq, Repr

/-- The list part of a reply: the items that fitted and the continuation (R165). -/
structure ListPart (α : Type) where
  items : List α
  next : Option Nat
deriving DecidableEq, Repr

/-! ### The School Day -/

/-- READ-TIME (R4). -/
structure TimeReply where
  time : Nat
  day : DayNumber
  weekdayBase : Nat
  weekday : Nat
  valid : Bool
  state : DayState
  register : Option DayNumber
  opened : Option DayNumber
deriving DecidableEq, Repr

/-! ### Day Plans and Cohorts -/

/-- WRITE-PLAN (R21): the session set and nominal end of a valid plan. -/
structure PlanWritten where
  plan : Nat
  revision : Nat
  valid : Bool
  derived : Option (SessionSet × Nat)
deriving DecidableEq, Repr

/-- The fields of a valid plan a READ-PLAN reply carries before its entries (R29). -/
structure PlanSummary where
  start : Nat
  count : Nat
  endPattern : BellPattern
  endZones : EightSet
  sessions : SessionSet
  nominalEnd : Nat
deriving DecidableEq, Repr

/-- The fixed fields of a READ-PLAN reply for a plan (R29). -/
structure PlanRead where
  plan : Nat
  valid : Bool
  revision : Nat
  inUse : Bool
  summary : Option PlanSummary
deriving DecidableEq, Repr

/-- An entry of a READ-PLAN reply with its index (R29). -/
structure EntryItem where
  index : Nat
  entry : Entry
deriving DecidableEq, Repr

/-- A cohort record of a READ-PLAN reply with its plan for today (R29). -/
structure CohortItem where
  cohort : Nat
  record : Cohort
  today : Option Nat
deriving DecidableEq, Repr

/-! ### Timetable Compression -/

/-- A session record as READ-TIMETABLE reports it (R48). -/
structure SessionItemReport where
  session : Session
  close : Option Nat
  fixed : Bool
  raised : Bool
deriving DecidableEq, Repr

/-- The fixed fields of a READ-TIMETABLE reply (R48). -/
structure TimetableRead where
  plan : Nat
  state : PlanState
  effEnd : Nat
  delayTotal : Nat
  earlyTotal : Nat
  shortTotal : Nat
  sessions : List SessionItemReport
  current : Option Nat
deriving DecidableEq, Repr

/-- An entry of a READ-TIMETABLE reply with its index (R48). -/
structure EffItem where
  index : Nat
  entry : EffEntry
deriving DecidableEq, Repr

/-! ### Bells -/

/-- The span an ANCHORED window covers, or inactive; a window of another kind has none (R53). -/
inductive SpanReport where
  | notAnchored
  | inactive
  | span (first last : Nat)
deriving DecidableEq, Repr

/-- A quiet window as WRITE-QUIET returns it (R53). -/
structure QuietItem where
  window : QuietWindow
  span : SpanReport
deriving DecidableEq, Repr

/-- RING (R56). -/
structure RingReply where
  started : EightSet
  merged : EightSet
  discarded : Bool
  lines : Vector BellLine 8
deriving DecidableEq, Repr

/-! ### The Pupil Table and Card Windows -/

/-- The plan for today and its session set (R65, R76). -/
structure PlanToday where
  plan : Nat
  sessions : SessionSet
deriving DecidableEq, Repr

/-- WRITE-PUPIL (R65). -/
structure PupilWritten where
  slot : Nat
  enrolment : Bool
  today : Option PlanToday
deriving DecidableEq, Repr

/-- A slot as READ-PUPIL returns it (R76). -/
structure PupilView where
  slot : Nat
  pupil : Option Pupil
  today : Option PlanToday
deriving DecidableEq, Repr

/-- A card window as WRITE-WINDOW and READ-PUPIL return it, with its first and last slot (R71). -/
structure WindowView where
  window : CardWindow
  first : Nat
  last : Nat
  beyond : Bool
deriving DecidableEq, Repr

/-- The outcome of matching a card (R73); the last two carry the window used and derived slot. -/
inductive CardMatch where
  | matched (slot window : Nat) (pupil : Pupil)
  | unknown
  | mismatch (window slot : Nat)
deriving DecidableEq, Repr

/-! ### The Day Register -/

/-- The outcome of a proposal (R81, R82, R80). -/
inductive Decision where
  | applied | repeated | held | conflict | notScheduled
deriving DecidableEq, Repr

/-- MARK (R88). -/
structure MarkReply where
  slot : Nat
  session : Session
  before : Mark
  standing : Mark
  repeated : Bool
  presence : Presence
  notice : Option NoticeKind
deriving DecidableEq, Repr

/-- A register record as READ-REGISTER returns it (R95). -/
structure RegisterView where
  slot : Nat
  record : RegisterRecord
  today : Option Nat
deriving DecidableEq, Repr

/-- How many ENROLLED slots hold each mark in one session (R95). -/
structure MarkCounts where
  none : Nat
  blank : Nat
  present : Nat
  notSeen : Nat
  late : Nat
  lateClosed : Nat
  excusedLate : Nat
  notified : Nat
  authorised : Nat
  offsite : Nat
  unexplained : Nat
deriving DecidableEq, Repr

/-- READ-REGISTER SUMMARY (R95). -/
structure RegisterSummary where
  am : MarkCounts
  pm : MarkCounts
  onSite : Nat
  offSite : Nat
  unknown : Nat
  amendments : Nat
  lost : Nat
  closed : Vector SessionSet 8
  group : GroupOutcome
deriving DecidableEq, Repr

/-- The fixed fields of a READ-CHANGES reply (R94). -/
structure ChangesRead where
  lost : Nat
  count : Nat
deriving DecidableEq, Repr

/-! ### Late Arrivals -/

/-- The class of a sign-in (R100 to R104). -/
inductive ArrivalClass where
  | present | late | lateClosed | excusedLate | returned | afterHours | notScheduled
deriving DecidableEq, Repr

/-- The excuse of an EXCUSED_LATE sign-in (R104): a parent's notice, or a held route with its
number and the hold's expiry. -/
inductive Excuse where
  | notice
  | route (route : Nat) (expiry : Stamp)
deriving DecidableEq, Repr

/-- A late target's threshold, close and minutes late (R102, R103), the first two as running
minutes. -/
structure LateFigures where
  threshold : Nat
  close : Nat
  minutes : Nat
deriving DecidableEq, Repr

/-- The slip (R107). -/
structure Slip where
  slot : Nat
  ref : PupilRef
  cohort : Nat
  tutor : Nat
  arrival : ArrivalClass
  target : Option Session
  stamp : Stamp
  confirmed : Bool
  late : Option LateFigures
  excuse : Option Excuse
  outcome : Option Decision
  accrual : Bool
  withheld : Bool
  am : Mark
  pm : Mark
deriving DecidableEq, Repr

/-- The earlier slip of a DUPLICATE reply (R107). -/
structure EarlierSlip where
  slot : Nat
  ref : PupilRef
  cohort : Nat
  tutor : Nat
  stamp : Stamp
  confirmed : Bool
  minutesLate : Option Nat
  am : Mark
  pm : Mark
deriving DecidableEq, Repr

/-- One session of the authorise set in a SIGN-OUT reply (R114). -/
structure SessionOutcome where
  session : Session
  outcome : Decision
  standing : Mark
deriving DecidableEq, Repr

/-- SIGN-OUT (R114). -/
structure SignOutReply where
  slot : Nat
  ref : PupilRef
  reason : SignOutReason
  returning : Bool
  stamp : Stamp
  presence : Presence
  outcomes : List SessionOutcome
deriving DecidableEq, Repr

/-- ROUTE-HOLD (R110). -/
structure RouteHoldReply where
  route : Nat
  hold : RouteHold
  totalMinutes : Nat
  riders : Nat
deriving DecidableEq, Repr

/-! ### Parent Messages -/

/-- NOTICE and CONFIRM-NOTICE (R126, R127, R142). -/
structure NoticeReply where
  slot : Nat
  unverified : Bool
  stored : Bool
  replaced : Bool
  outcomes : List SessionOutcome
deriving DecidableEq, Repr

/-- An entry of a READ-STANDING reply (R130). -/
structure StandingItem where
  index : Nat
  entry : Standing
  ref : Option PupilRef
deriving DecidableEq, Repr

/-- The hand-over record (R135). -/
structure HandOver where
  tag : Nat
  kind : OutboundKind
  ref : PupilRef
  contact : Nat
  channel : Channel
  sessions : SessionSet
  attempt : Nat
  arrival : Option Stamp
deriving DecidableEq, Repr

/-- An entry of a READ-CALLS reply (R141). -/
structure CallItem where
  index : Nat
  entry : CallEntry
  ref : Option PupilRef
deriving DecidableEq, Repr

/-! ### Term Accumulators -/

/-- What every READ-TOTALS reply carries (R152). -/
structure TotalsHead where
  termDays : Nat
  concern : Nat
  folding : Bool
deriving DecidableEq, Repr

/-- An accumulator record as READ-TOTALS returns it: reference and record of an ENROLLED slot
(R152). -/
structure TotalsView where
  slot : Nat
  enrolled : Option (PupilRef × Accumulator)
deriving DecidableEq, Repr

/-! ### Alarm Line and Site Roll -/

/-- The fixed fields of a READ-ROLL reply (R158). -/
structure RollRead where
  alarm : Bool
  state : RollState
  count : Nat
  unaccounted : Nat
deriving DecidableEq, Repr

/-- An entry of a READ-ROLL reply (R158). -/
structure RollItem where
  index : Nat
  entry : RollEntry
  ref : Option PupilRef
deriving DecidableEq, Repr

/-! ### Link Ports -/

inductive PortState where
  | active | parked | cycling
deriving DecidableEq, Repr

inductive ReceiveState where
  | hunting | inFrame
deriving DecidableEq, Repr

/-- One port as LINK-STATUS reports it (R166). -/
structure PortReport where
  role : Role
  state : PortState
  inService : Bool
  limit : Nat
  faults : LinkFaults
  discarded : Nat
deriving DecidableEq, Repr

/-- What a reply's payload carries after the reply head. -/
inductive ReplyBody where
  /-- Nothing after the head. -/
  | empty
  /-- The name of the failing check and, where it concerns one entry, its index (R21, R64, R126). -/
  | check (name : CheckName) (entry : Option Nat)
  /-- The slot that already holds the reference or card (R64). -/
  | slotHeld (slot : Nat)
  | time (fields : TimeReply)
  | timeSet (time : Nat) (day : DayNumber) (step : Option Int) (minutes : Nat)
  | dayOpened (register : DayNumber) (weekday : Nat) (plans : EightSet)
  | dayClosed (register : DayNumber) (close : Stamp)
  | planWritten (fields : PlanWritten)
  | settings (record : Settings)
  | plan (fixed : PlanRead) (list : ListPart EntryItem)
  | cohorts (list : ListPart CohortItem)
  | shifted (figures : List ShiftFigures)
  | timetable (fixed : TimetableRead) (list : ListPart EffItem)
  | quiet (windows : List QuietItem)
  | rung (fields : RingReply)
  | pupilWritten (fields : PupilWritten)
  | pupilCleared (slot : Nat) (removed handed : Bool)
  | windows (windows : List (Option WindowView))
  | pupil (view : PupilView)
  | pupils (list : ListPart PupilView)
  | card (outcome : CardMatch) (view : Option PupilView)
  | marked (fields : MarkReply)
  | register (view : RegisterView)
  | registers (list : ListPart RegisterView)
  | summary (fields : RegisterSummary)
  | changes (fixed : ChangesRead) (items : List Amendment)
  | slip (fields : Slip)
  | earlierSlip (fields : EarlierSlip)
  | signedOut (fields : SignOutReply)
  | routeHeld (fields : RouteHoldReply)
  | noticed (fields : NoticeReply)
  | noticeExpired (slot : Nat)
  | standing (count : Nat) (list : ListPart StandingItem)
  | standingCancelled (entry : Standing)
  | nothingToSend
  | handOver (fields : HandOver)
  | calls (count : Nat) (list : ListPart CallItem)
  | callCleared (entry : CallEntry)
  | totals (head : TotalsHead) (view : TotalsView)
  /-- A READ-TOTALS refused by its owner (R152). -/
  | totalsRefused (head : TotalsHead)
  | totalsList (head : TotalsHead) (list : ListPart TotalsView)
  | termDays (before : Nat)
  | roll (fixed : RollRead) (list : ListPart RollItem)
  | accounted (changed unaccounted : Nat)
  | rollClosed (count unaccounted : Nat)
  | replyLimit (octets : Nat)
  | linkStatus (port : PortId) (ports : Vector PortReport 6) (faultValid : Bool)
  | portMoved (before after : PortState)
  | faults (record : Option FaultRecord) (more : MoreFlags)
deriving DecidableEq, Repr

/-- A reply: the request's kind with its top bit set, the request's frame tag, the reply head and
what follows it (R161, R164). -/
structure Reply where
  kind : Octet
  tag : Octet
  head : ReplyHead
  body : ReplyBody
deriving DecidableEq, Repr

/-- The service of a port (R160): while IN_SERVICE, the kind and frame tag of the request in
service, and whether the port was parked or cycled before it was answered, so that its reply is not
sent (R167). -/
inductive Service where
  | idle
  | inService (kind tag : Octet) (unanswered : Bool)
deriving DecidableEq, Repr

/-- A port record (R160), with the reply the port is sending; `cycleEnd` is the REFCLK count from
the start of a cycle to its end, present while CYCLING (R168). -/
structure Port where
  role : Role
  state : PortState
  cycleEnd : Option Nat
  receive : ReceiveState
  service : Service
  limit : Nat
  faults : LinkFaults
  discarded : Nat
  reply : Option Reply
deriving DecidableEq, Repr

/-- The Link Interface (R160, R169): the fault record is valid when it is present. `restartDue` says
that the reply of a RESTART has left its port and the restart is to take effect (R18). -/
structure LinkInterface where
  ports : Vector Port 6
  fault : Option FaultRecord
  more : MoreFlags
  restartDue : Bool
deriving DecidableEq, Repr

end Sys2Proof.Machine
end

