-- ==== Sys2Proof/Machine/State.lean ====
section
/-! DEFINITION. The state of the UW-640: one field for each block, as 00_scope divides the part, the
messages in flight between blocks, the levels of the lines, and the queue of commands waiting. -/

namespace Sys2Proof.Machine

open Sys2Proof

/-- The whole state of the part. -/
structure State where
  clock : Clock
  day : DayRecord
  store : PlanStore
  timetable : Timetable
  bells : BellUnit
  pupils : PupilTable
  register : DayRegister
  arrivals : Arrivals
  messages : MessageUnit
  totals : Accumulators
  roll : SiteRoll
  link : LinkInterface
  wires : Wires
  lines : Lines
  /-- The commands waiting, first in, first out. -/
  pending : List Instr
deriving DecidableEq, Repr

/-- No command stops the part: what the manual calls a fault is recorded in the first-fault record
or a link fault set (R162, R169), which are state. So no command raises a fault, and the type has no
constructor: safe. -/
inductive Fault where
deriving DecidableEq, Repr

/-- Why a command has no meaning. -/
inductive Refusal where
  /-- Raised by `exec` alone, for a command whose meaning is not written yet: safe. -/
  | notModelled (mnemonic : String)
deriving DecidableEq, Repr

/-! ### Values at power-on reset -/

/-- The clock after power-on reset (R1). -/
def Clock.reset : Clock := ⟨0, 0, 0, false⟩

/-- The day state record after power-on reset and RESTART (R8). -/
def DayRecord.reset : DayRecord :=
  { state := .closed, opened := none, register := none, closeTime := none, closePending := false,
    plans := Vector.replicate 8 none, openPort := none, closePort := none, held := [] }

/-- The default day settings (R27). -/
def Settings.default : Settings :=
  { autoOpen := 420, autoClose := 1080, weekdayBase := 0, pushMode := .timed, pushLength := 5,
    pushZones := BitVec.allOnes 8, concern := 0, ignoreSoft := false }

/-- A cleared Plan Store (R30). -/
def PlanStore.cleared : PlanStore :=
  { plans := Vector.replicate 8 ⟨0, none⟩,
    cohorts := Vector.replicate 8 ⟨false, Vector.replicate 7 0, .absent⟩,
    settings := Settings.default }

/-- The Timetable Engine with no tables (R32). -/
def Timetable.reset : Timetable := ⟨[], none, none, []⟩

/-- The Bell Unit at a reset, given the levels of PUSH and ALARM (R49, R53, R57, R60). -/
def BellUnit.reset (push alarm : Bool) : BellUnit :=
  { lines := Vector.replicate 8 .silent, quiet := Vector.replicate 8 .empty,
    push := if push then .held else .released, alarm := alarm }

/-- A cleared Pupil Table (R77). -/
def PupilTable.cleared : PupilTable := ⟨[], Vector.replicate 8 none⟩

/-- The per-session fields of a register record as a reset leaves them (R78). -/
def SessionMarks.reset (mark : Mark) : SessionMarks :=
  { mark := mark, lastSource := none, lastChange := none, notice := none, since := none,
    expectedLate := false, trailGap := false }

/-- A register record as a reset leaves it, with the marks the reset names (R78). -/
def RegisterRecord.reset (am pm : Mark) : RegisterRecord :=
  { am := .reset am, pm := .reset pm, presence := .unknown, signIn := none, minutesLate := none,
    confirmed := false, signOut := none, returning := false, alert := .none }

/-- The group-mark outcome record with its state NONE (R90). -/
def GroupOutcome.none : GroupOutcome := ⟨.none, Option.none, 0, 0, 0⟩

/-- The walker at a reset, given the Site Roll's alarm state (R115). -/
def Walker.reset (alarm : Bool) : Walker := ⟨none, 0, alarm, [], none, none⟩

/-- The Day Register at a reset (R98, R115). -/
def DayRegister.reset (alarm : Bool) : DayRegister :=
  { records := [], amendments := [], lost := 0, closed := Vector.replicate 8 ⟨false, false⟩,
    group := .none, walker := .reset alarm }

/-- A Message Unit with everything cleared (R125, R131, R136, R140). -/
def MessageUnit.cleared : MessageUnit := ⟨[], [], 1, []⟩

/-- The Site Roll at a reset, given the level of ALARM (R154). -/
def SiteRoll.reset (alarm : Bool) : SiteRoll := ⟨alarm, .idle, []⟩

/-- The empty link fault set. -/
def LinkFaults.none : LinkFaults := ⟨false, false, false, false, false⟩

/-- A port record at a reset, given its role (R160). -/
def Port.reset (role : Role) : Port :=
  { role := role, state := .active, cycleEnd := none, receive := .hunting, service := .idle,
    limit := 64, faults := .none, discarded := 0, reply := Option.none }

/-- The Link Interface at a reset, given the role of each port (R160, R169). -/
def LinkInterface.reset (roles : Vector Role 6) : LinkInterface :=
  { ports := mapNth (fun _ r => Port.reset r) roles, fault := none,
    more := ⟨false, false, false⟩, restartDue := false }

/-- No message in flight. -/
def Wires.none : Wires := ⟨[], [], [], [], [], []⟩

/-- The role a port's three straps name (R160). -/
def roleOfStraps (straps : BitVec 3) : Role :=
  match straps.toNat with
  | 1 => .records
  | 2 => .desk
  | 3 => .terminal
  | 4 => .kiosk
  | 5 => .gateway
  | _ => .none

/-- DESIGN CHOICE (notes/assumptions/1): the straps at `State.reset`. L0 RECORDS, L1 DESK,
L2 TERMINAL, L3 KIOSK, L4 GATEWAY, L5 KIOSK. -/
def resetStraps : Vector (BitVec 3) 6 := #v[1, 2, 3, 4, 5, 4]

/-- The part right after a power-on reset taken with RETAIN_OK low, PUSH released and ALARM clear
(R17; the levels of the lines are notes/assumptions/1 and 2). -/
def State.reset : State :=
  { clock := .reset
    day := .reset
    store := .cleared
    timetable := .reset
    bells := .reset false false
    pupils := .cleared
    register := .reset false
    arrivals := ⟨[], 0⟩
    messages := .cleared
    totals := ⟨[], 0⟩
    roll := .reset false
    link := .reset (mapNth (fun _ b => roleOfStraps b) resetStraps)
    wires := .none
    lines := { resetN := true, push := false, alarm := false, retainOk := false,
               straps := resetStraps }
    pending := [] }

end Sys2Proof.Machine
end

