-- ==== Sys2Proof/Machine/Ops.lean ====
section
/-! DEFINITION. The operations every family of commands shares: slot tables, stamps, today and the
plans for today, the ports and their replies, fault reports, the gates of the day state, lookups in
the Pupil Table, and the register record of a slot. -/

namespace Sys2Proof

/-! ### Sessions and session sets -/

def SessionSet.has (set : SessionSet) : Session → Bool
  | .am => set.am
  | .pm => set.pm

def SessionSet.put (set : SessionSet) (session : Session) (x : Bool) : SessionSet :=
  match session with
  | .am => { set with am := x }
  | .pm => { set with pm := x }

def SessionSet.isEmpty (set : SessionSet) : Bool := !set.am && !set.pm

def SessionSet.union (a b : SessionSet) : SessionSet := ⟨a.am || b.am, a.pm || b.pm⟩

def SessionSet.inter (a b : SessionSet) : SessionSet := ⟨a.am && b.am, a.pm && b.pm⟩

/-- The set holding one session. -/
def SessionSet.of : Session → SessionSet
  | .am => ⟨true, false⟩
  | .pm => ⟨false, true⟩

/-- The sessions of a set in the order AM, PM. -/
def SessionSet.list (set : SessionSet) : List Session :=
  (if set.am then [.am] else []) ++ (if set.pm then [.pm] else [])

end Sys2Proof

namespace Sys2Proof.Machine

open Sys2Proof

/-! ### Slot tables -/

/-- What a slot reads as; `d` is what an unlisted slot reads as. -/
def readSlot {α : Type} (d : α) : SlotTable α → Nat → α
  | [], _ => d
  | (k, v) :: rest, slot => if slot = k then v else readSlot d rest slot

/-- Writes one slot, keeping slots rising and no entry equal to `d`. -/
def writeSlot {α : Type} [DecidableEq α] (d : α) : SlotTable α → Nat → α → SlotTable α
  | [], slot, x => if x = d then [] else [(slot, x)]
  | (k, v) :: rest, slot, x =>
    if slot < k then (if x = d then (k, v) :: rest else (slot, x) :: (k, v) :: rest)
    else if slot = k then (if x = d then rest else (slot, x) :: rest)
    else (k, v) :: writeSlot d rest slot x

/-- The canonical form of a slot table: slots strictly rising and below `bound`, no entry equal to
what an unlisted slot reads as. -/
def tableWf {α : Type} [DecidableEq α] (d : α) (bound : Nat) : SlotTable α → Bool
  | [] => true
  | (k, v) :: rest =>
    decide (k < bound) && decide (v ≠ d) && rest.all (fun e => decide (k < e.1))
      && tableWf d bound rest

/-! ### Stamps -/

/-- A stamp's position in seconds (R5). -/
def Stamp.position (t : Stamp) : Nat := t.day.toNat * 86400 + t.time

/-- The number of positions before they come round again: 65536 × 86400 (R5). -/
def positions : Nat := 5662310400

/-- The stamp at a position. -/
def stampAt (position : Nat) : Stamp :=
  ⟨position % 86400, BitVec.ofNat 16 (position / 86400)⟩

/-- `later` less `earlier`, measured as R5 measures a step: modulo 65536 × 86400, into
-2831155200 to 2831155199. -/
def stampDiff (later earlier : Stamp) : Int :=
  ((later.position : Int) - earlier.position + 2831155200) % (positions : Int) - 2831155200

/-- The seconds from `earlier` to `later`, a difference below 0 counting as 0 (R78). -/
def secondsBetween (earlier later : Stamp) : Nat := (stampDiff later earlier).toNat

/-- The stamp some seconds later. -/
def Stamp.plus (t : Stamp) (seconds : Nat) : Stamp :=
  stampAt ((t.position + seconds) % positions)

/-- A day number is later than another when their difference, modulo 65536, is 1 to 32767 (R2). -/
def laterDay (d than : DayNumber) : Bool :=
  decide (1 ≤ (d - than).toNat) && decide ((d - than).toNat ≤ 32767)

/-- An end time is reached by a second event at or after it within the same day number, or by any
second event of a later day number (R2). -/
def reached (event expiry : Stamp) : Bool :=
  (event.day == expiry.day && decide (expiry.time ≤ event.time)) || laterDay event.day expiry.day

/-- The current stamp: the time of day with the clock's day number (R78). -/
def now (s : State) : Stamp := ⟨s.clock.time, s.clock.day⟩

/-! ### Today and the plans for today -/

/-- Today: the clock's day number in CLOSED, the register day otherwise (R3). -/
def today (s : State) : DayNumber :=
  match s.day.state with
  | .closed => s.clock.day
  | _ => s.day.register.getD s.clock.day

/-- The weekday of a day number, 0 for Monday (R3). -/
def weekdayOf (base : Nat) (d : DayNumber) : Nat := (d.toNat + base) % 7

/-- The stored day plan of a number 1 to 8. -/
def planBody (store : PlanStore) (plan : Nat) : Option PlanBody :=
  if plan = 0 then none else (nth store.plans ⟨0, none⟩ (plan - 1)).body

/-- A plan number that names a valid plan; 0 and an invalid plan give none (R9, R24). -/
def validPlan (store : PlanStore) (plan : Nat) : Option Nat :=
  if (planBody store plan).isSome then some plan else none

/-- A cohort's plan for a day number (R24). -/
def planForDay (store : PlanStore) (d : DayNumber) (cohort : Nat) : Option Nat :=
  let c := nth store.cohorts ⟨false, Vector.replicate 7 0, .absent⟩ cohort
  if c.enabled then
    match c.override with
    | .plan n => validPlan store n
    | .noPlan => none
    | .absent => validPlan store (nth c.weekdays 0 (weekdayOf store.settings.weekdayBase d))
  else none

/-- Each cohort's plan for a day number, as an opening fixes it (R10). -/
def plansForDay (store : PlanStore) (d : DayNumber) : Vector (Option Nat) 8 :=
  Vector.ofFn fun c => planForDay store d c.val

/-- A cohort's plan for today: made afresh in CLOSED, fixed at the opening otherwise (R24). -/
def cohortPlan (s : State) (cohort : Nat) : Option Nat :=
  match s.day.state with
  | .closed => planForDay s.store s.clock.day cohort
  | _ => nth s.day.plans none cohort

/-- Whether a plan is in use today (R24). -/
def inUse (s : State) (plan : Nat) : Bool :=
  (List.range 8).any fun c => cohortPlan s c == some plan

/-- The plans in use today, bit n - 1 standing for plan n. -/
def plansInUse (s : State) : EightSet :=
  (List.range 8).foldl (fun set i => if inUse s (i + 1) then set ||| only 8 i else set) 0

/-- Whether an entry is the REGISTRATION entry of a session. -/
def Entry.registers (e : Entry) (session : Session) : Bool :=
  e.kind == .registration && e.tag == some session

/-- The session set of a plan's entries (R19). -/
def sessionSetOf (entries : List Entry) : SessionSet :=
  ⟨entries.any (·.registers .am), entries.any (·.registers .pm)⟩

/-- A plan's nominal end (R19). -/
def PlanBody.nominalEnd (b : PlanBody) : Nat := b.start + (b.entries.map (·.nominal)).sum

/-- A pupil's plan for today with its session set (R24, R62). -/
def planTodayOf (s : State) (cohort : Nat) : Option PlanToday :=
  (cohortPlan s cohort).map fun p =>
    ⟨p, match planBody s.store p with
        | some b => sessionSetOf b.entries
        | none => ⟨false, false⟩⟩

/-- The sessions a cohort's pupils have today; none without a plan (R62). -/
def sessionsToday (s : State) (cohort : Nat) : SessionSet :=
  match planTodayOf s cohort with
  | some t => t.sessions
  | none => ⟨false, false⟩

/-! ### Ports -/

/-- A port's record. -/
def State.port (s : State) (p : PortId) : Port := s.link.ports[p]

/-- Replaces a port's record. -/
def State.setPort (s : State) (p : PortId) (r : Port) : State :=
  { s with link := { s.link with ports := s.link.ports.set p r } }

/-- ATTN: high while the fault record is valid, low while RESET_N is low (R169). -/
def State.attn (s : State) : Bool := s.lines.resetN && s.link.fault.isSome

/-- Causes a port's receiver records (R162, R163). -/
inductive LinkCause where
  | header | length | check | truncated | overlap
deriving DecidableEq, Repr

/-- A link fault set with a cause added (R162). -/
def LinkFaults.add (f : LinkFaults) : LinkCause → LinkFaults
  | .header => { f with header := true }
  | .length => { f with length := true }
  | .check => { f with check := true }
  | .truncated => { f with truncated := true }
  | .overlap => { f with overlap := true }

/-- Records a cause on a port: it joins the set and the discarded count goes up, staying at 255
(R162). -/
def recordCause (p : PortId) (cause : LinkCause) (s : State) : State :=
  let r := s.port p
  s.setPort p { r with faults := r.faults.add cause, discarded := satAdd 255 r.discarded 1 }

/-- Answers the request in service on a port (R163). The reply head copies the link fault set and the
discarded count, which are then emptied (R164). A request whose port was parked or cycled before
it was answered is not answered, and its port becomes IDLE (R163, R167; notes/assumptions/18). -/
def answer (p : PortId) (status : Status) (adjusted : Bool) (body : ReplyBody) (s : State) :
    State :=
  let r := s.port p
  match r.service with
  | .idle => s
  | .inService _ _ true => s.setPort p { r with service := .idle }
  | .inService kind tag false =>
    s.setPort p
      { r with
        faults := .none
        discarded := 0
        reply := some
          { kind := kind ||| 0x80
            tag := tag
            head :=
              { status := status, faults := r.faults, discarded := r.discarded,
                adjusted := adjusted, faultValid := s.link.fault.isSome }
            body := body } }

/-- A reply with the adjusted flag clear and nothing after its head. -/
def refuse (p : PortId) (status : Status) (s : State) : State := answer p status false .empty s

/-- A reply of status OK with the adjusted flag clear. -/
def answerOk (p : PortId) (body : ReplyBody) (s : State) : State := answer p .ok false body s

/-- Whether a port's receiver takes octets at all: RESET_N is high, the port is ACTIVE and its role
is not NONE (R17, R160, R167). -/
def listening (s : State) (p : PortId) : Bool :=
  s.lines.resetN && decide ((s.port p).state = .active) && decide ((s.port p).role ≠ .none)

/-- Makes a port IN_SERVICE with a request (R163), its receiver HUNTING again. -/
def enterService (p : PortId) (kind tag : Octet) (s : State) : State :=
  s.setPort p { s.port p with service := .inService kind tag false, receive := .hunting }

/-- What LI does with a complete frame (R163): passed over by a port that takes no frames, OVERLAP on
a port IN_SERVICE, otherwise taken, checked for role and form, and passed to its owner. -/
def takeFrame (f : Frame) (k : Kind) (owner : State → State) (s : State) : State :=
  if listening s f.port then
    match (s.port f.port).service with
    | .inService _ _ _ =>
      recordCause f.port .overlap (s.setPort f.port { s.port f.port with receive := .hunting })
    | .idle =>
      let s := enterService f.port k.octet f.tag s
      if !k.allows (s.port f.port).role then refuse f.port .refusedRole s
      else if !f.suits then refuse f.port .badField s
      else owner s
  else s

/-- The outcome of a request: `takeFrame` always leaves a next state. -/
def request (f : Frame) (k : Kind) (owner : State → State) (s : State) :
    Host.Outcome State Fault Refusal :=
  .next (takeFrame f k owner s)

/-- The outcome of an event of the part: while RESET_N is low the part raises none (R17). -/
def event (effect : State → State) (s : State) : Host.Outcome State Fault Refusal :=
  .next (if s.lines.resetN then effect s else s)

/-! ### List replies -/

/-- The items after the first that keep the payload at or under the limit, where `used` octets of it
are taken (R165). -/
def fitFrom {α : Type} (limit fixed used : Nat) : List α → List α
  | [] => []
  | x :: rest =>
    if used + Config.itemOctets fixed x ≤ limit then
      x :: fitFrom limit fixed (used + Config.itemOctets fixed x) rest
    else []

/-- As many whole items as fit after the fixed fields, and one item all the same when not even one
fits (R165). -/
def fit {α : Type} (limit fixed : Nat) : List α → List α
  | [] => []
  | x :: rest => x :: fitFrom limit fixed (fixed + Config.itemOctets fixed x) rest

/-- The octets of a payload that carries some items after its fixed fields (R165). -/
def listOctets {α : Type} (fixed : Nat) (items : List α) : Nat :=
  fixed + (items.map fun x => (Config.itemOctets fixed x : Nat)).sum

/-- The items of a list from a start index onward with the index of the first one not returned
(R29, R48, R130, R141, R158). -/
def indexedPart {α : Type} (limit fixed start : Nat) (items : List α) : ListPart α :=
  let kept := fit limit fixed (items.drop start)
  ⟨kept, if start + kept.length < items.length then some (start + kept.length) else none⟩

/-- The items that fit of a list in slot order, with the slot after the last one returned, absent
when no slot of the list remains (R76, R95, R152; notes/assumptions/21). -/
def slotPart {α : Type} (limit fixed : Nat) (slot : α → Nat) (items : List α) : ListPart α :=
  let kept := fit limit fixed items
  ⟨kept, if kept.length < items.length then kept.getLast?.map (slot · + 1) else none⟩

/-- A list with each item's index. -/
def indexed {α β : Type} (f : Nat → α → β) (items : List α) : List β :=
  items.mapIdx f

/-- The reply limit of a port (R165). -/
def replyLimit (s : State) (p : PortId) : Nat := (s.port p).limit

/-- The first of some things under an order that says which of two goes before the other. -/
def firstBy {α : Type} (before : α → α → Bool) : List α → Option α
  | [] => none
  | x :: rest =>
    match firstBy before rest with
    | none => some x
    | some y => if before y x then some y else some x

/-! ### The first-fault record -/

/-- The class of a fault kind (first-fault record table). -/
def FaultKind.faultClass : FaultKind → FaultClass
  | .unknownCard | .cardMismatch | .cardRetry => .identity
  | .queueFull | .callListFull | .standingFull | .trailOverrun => .capacity
  | .gatewayTimeout => .messaging

/-- The more flags with one class set. -/
def MoreFlags.add (m : MoreFlags) : FaultClass → MoreFlags
  | .identity => { m with identity := true }
  | .capacity => { m with capacity := true }
  | .messaging => { m with messaging := true }

/-- LI takes a fault report (R169). -/
def reportFault (r : FaultRecord) (s : State) : State :=
  if r.kind = .cardRetry ∧ s.store.settings.ignoreSoft then s
  else
    match s.link.fault with
    | none => { s with link := { s.link with fault := some r } }
    | some _ => { s with link := { s.link with more := s.link.more.add r.kind.faultClass } }

/-! ### The gates of the day state -/

/-- Holds a request until the day state lets it be taken (R13). -/
def holdRequest (p : PortId) (h : Holdable) (s : State) : State :=
  { s with day := { s.day with held := s.day.held ++ [⟨p, h⟩] } }

/-- MARK, GROUP-MARK, SIGN-IN, SIGN-OUT, ROUTE-HOLD, SHIFT and READ-TIMETABLE: taken in OPEN, held
during OPENING, answered DAY_CLOSED otherwise (R13). -/
def gateOpen (p : PortId) (h : Holdable) (taken : State → State) (s : State) : State :=
  match s.day.state with
  | .closed | .closing => refuse p .dayClosed s
  | .opening => holdRequest p h s
  | .open => taken s

/-- NOTICE and CONFIRM-NOTICE: held during OPENING and taken otherwise (R13). -/
def gateNotice (p : PortId) (h : Holdable) (taken : State → State) (s : State) : State :=
  match s.day.state with
  | .opening => holdRequest p h s
  | .closed | .open | .closing => taken s

/-- READ-REGISTER and READ-CHANGES: held during OPENING and CLOSING, taken otherwise (R13). -/
def gateRegister (p : PortId) (h : Holdable) (taken : State → State) (s : State) : State :=
  match s.day.state with
  | .opening | .closing => holdRequest p h s
  | .closed | .open => taken s

/-! ### Pupils -/

/-- The ENROLLED record in a slot, if the slot holds one. -/
def pupilAt (s : State) (slot : Nat) : Option Pupil := readSlot none s.pupils.pupils slot

/-- Replaces a slot's pupil record. -/
def setPupil (slot : Nat) (r : Option Pupil) (s : State) : State :=
  { s with pupils := { s.pupils with pupils := writeSlot none s.pupils.pupils slot r } }

/-- The ENROLLED records in ascending slot order. -/
def enrolled (s : State) : List (Nat × Pupil) :=
  s.pupils.pupils.filterMap fun e => e.2.map fun r => (e.1, r)

/-- Lookup by pupil reference (R75): a reference of 0 finds no record. -/
def lookup (s : State) (ref : PupilRef) : Option (Nat × Pupil) :=
  if ref = 0 then none else (enrolled s).find? fun e => e.2.ref == ref

/-- The pupil reference of a slot, for a reply. -/
def refAt (s : State) (slot : Nat) : Option PupilRef := (pupilAt s slot).map (·.ref)

/-- Whether a slot still holds the pupil a message names (R131, R132, R140, R146). -/
def holdsRef (s : State) (slot : Nat) (ref : PupilRef) : Bool := refAt s slot == some ref

/-- A pupil's plan for today; none for an EMPTY slot. -/
def pupilPlan (s : State) (slot : Nat) : Option Nat :=
  (pupilAt s slot).bind fun r => cohortPlan s r.cohort

/-! ### Register records -/

/-- The reset record with both marks NONE: what an unlisted slot's record reads as. -/
def noRecord : RegisterRecord := .reset .none .none

/-- A slot's register record. -/
def recordAt (s : State) (slot : Nat) : RegisterRecord := readSlot noRecord s.register.records slot

/-- Replaces a slot's register record. -/
def setRecord (slot : Nat) (r : RegisterRecord) (s : State) : State :=
  { s with register :=
      { s.register with records := writeSlot noRecord s.register.records slot r } }

/-- The per-session fields of a record. -/
def RegisterRecord.session (r : RegisterRecord) : Session → SessionMarks
  | .am => r.am
  | .pm => r.pm

/-- Replaces the per-session fields of a record. -/
def RegisterRecord.setSession (r : RegisterRecord) (session : Session) (m : SessionMarks) :
    RegisterRecord :=
  match session with
  | .am => { r with am := m }
  | .pm => { r with pm := m }

/-- The mark a slot holds for a session. -/
def markOf (s : State) (slot : Nat) (session : Session) : Mark :=
  ((recordAt s slot).session session).mark

/-- Resets a slot's register record to the marks named (R78). Alert states reported before the reset
are discarded when taken (R132), and presence changes passed before it are not taken either
(notes/assumptions/11). -/
def resetRecord (slot : Nat) (am pm : Mark) (s : State) : State :=
  let s := setRecord slot (.reset am pm) s
  { s with wires :=
      { s.wires with
        reports := s.wires.reports.filter (·.slot != slot)
        toRoll := s.wires.toRoll.filter (·.slot != slot) } }

/-! ### Route holds -/

/-- A route's hold, if its record is active (R109). -/
def holdAt (s : State) (route : Nat) : Option RouteHold := readSlot none s.arrivals.holds route

/-- Replaces a route's hold record. -/
def setHold (route : Nat) (h : Option RouteHold) (s : State) : State :=
  { s with arrivals :=
      { s.arrivals with holds := writeSlot none s.arrivals.holds route h } }

/-- Whether a pupil's route is held: it is not 0 and its hold is active (R109). -/
def routeHeld (s : State) (route : Nat) : Bool := route != 0 && (holdAt s route).isSome

/-! ### Accumulator records -/

/-- The accumulator record that is all zero (R145). -/
def zeroAccumulator : Accumulator :=
  { possible := 0, attended := 0, late := 0, timedLate := 0, lateMinutes := 0, unexplained := 0,
    openMinutes := 0, limits := ⟨false, false, false, false, false, false, false⟩,
    lastFold := none }

/-- A slot's accumulator record. -/
def totalsAt (s : State) (slot : Nat) : Accumulator :=
  readSlot zeroAccumulator s.totals.records slot

/-- Replaces a slot's accumulator record. -/
def setTotals (slot : Nat) (r : Accumulator) (s : State) : State :=
  { s with totals :=
      { s.totals with records := writeSlot zeroAccumulator s.totals.records slot r } }

end Sys2Proof.Machine
end

