-- ==== Sys2Proof/Machine/Operands.lean ====
section
/-! DEFINITION. The operand forms: the content checks each request's fields pass, in the order their
rule gives, the adjustments a taken write makes to them, and the matching of a card number. -/

namespace Sys2Proof.Machine

open Sys2Proof

/-- A number in a closed range. -/
def within (low high n : Nat) : Bool := decide (low ≤ n) && decide (n ≤ high)

/-- The header check of three header octets (R161). -/
def headerCheck (kind tag length : Octet) : Octet :=
  BitVec.ofNat 8 (255 - (kind.toNat + tag.toNat + length.toNat) % 256)

end Sys2Proof.Machine

namespace Sys2Proof

open Sys2Proof.Machine

/-! ### What the fields of a request are, and what a taken request stores -/

/-- A write that carries no entries, which asks that the plan be made invalid (R21). -/
def PlanReq.invalidates (r : PlanReq) : Bool := r.entries.isEmpty && r.count == 0

/-- Whether an entry is a REGISTRATION entry with a session's tag. -/
def EntryReq.registers (e : EntryReq) (session : Session) : Bool :=
  e.kind == some .registration && e.tag == .tag session

/-- An entry that fails RANGE (R21): the session tag matters for a REGISTRATION entry alone (R20;
notes/assumptions/17). -/
def EntryReq.outOfRange (e : EntryReq) : Bool :=
  e.kind.isNone || e.pattern.isNone || !within 1 180 e.nominal
    || (e.kind == some .registration && !(e.tag == .tag .am || e.tag == .tag .pm))

/-- An entry that fails FLOOR (R21). -/
def EntryReq.badFloor (e : EntryReq) : Bool :=
  e.compressible && !within 1 e.nominal e.floor

/-- The indices of the REGISTRATION entries of a session. -/
def PlanReq.registrations (r : PlanReq) (session : Session) : List Nat :=
  (r.entries.zipIdx.filter fun e => e.1.registers session).map (·.2)

/-- RANGE on the fields of the plan as a whole (R21 check 1). -/
def PlanReq.outOfRange (r : PlanReq) : Bool :=
  !within 1 8 r.plan
    || (!r.invalidates
        && (decide (24 < r.count) || r.count != r.entries.length || !within 300 900 r.start
            || r.endPattern.isNone))

/-- An entry as a taken WRITE-PLAN stores it (R20). -/
def EntryReq.stored (e : EntryReq) : Entry :=
  let registration := e.kind == some .registration
  { kind := e.kind.getD .lesson
    nominal := e.nominal
    floor := if e.compressible then e.floor else e.nominal
    compressible := e.compressible
    pattern := e.pattern.getD .none
    zones := e.zones
    tag := if registration then (match e.tag with | .tag s => some s | _ => none) else none
    grace := if registration then some (min e.grace 60) else none }

/-- Whether storing an entry sets the adjusted flag: its compressible field is no, so that its floor is
replaced, or it is a REGISTRATION entry with a grace over 60 (R20). -/
def EntryReq.adjusted (e : EntryReq) : Bool :=
  !e.compressible || (e.kind == some .registration && decide (60 < e.grace))

/-- The plan a taken WRITE-PLAN stores; none when it carries no entries (R21). -/
def PlanReq.body (r : PlanReq) : Option PlanBody :=
  if r.invalidates then none
  else
    some
      { start := r.start, entries := r.entries.map (·.stored),
        endPattern := r.endPattern.getD .none, endZones := r.endZones }

/-- A cohort record as a taken WRITE-COHORTS stores it (R23). -/
def CohortReq.stored (r : CohortReq) : Cohort := ⟨r.enabled, r.weekdays, r.override⟩

/-- The record a taken WRITE-SETTINGS stores (R27). -/
def SettingsReq.stored (r : SettingsReq) : Settings :=
  { autoOpen := r.autoOpen, autoClose := r.autoClose, weekdayBase := r.weekdayBase,
    pushMode := r.pushMode.getD .timed, pushLength := min r.pushLength 30,
    pushZones := r.pushZones, concern := r.concern.toNat, ignoreSoft := r.ignoreSoft }

/-- The plans of a SHIFT's set in ascending order. -/
def ShiftReq.planSet (r : ShiftReq) : List Nat :=
  ((List.range 8).map (· + 1)).filter fun p => r.plans.contains p

/-- The record a taken WRITE-PUPIL stores (R65). -/
def PupilReq.stored (r : PupilReq) : Pupil :=
  { ref := r.ref, card := r.card, cohort := r.cohort, tutor := r.tutor, route := r.route,
    contacts := r.contacts.map fun c => ⟨c.contact, c.channel.getD .text⟩, groups := r.groups }

/-- Whether a window claims a card: they differ in no bit outside the mask (R72). -/
def CardWindow.claims (w : CardWindow) (card : Nat) : Bool :=
  ((card ^^^ w.base) ||| w.mask) == w.mask

/-- The slot a window derives for a card (R72). -/
def CardWindow.derive (w : CardWindow) (card : Nat) : Nat := w.slotBase + (card &&& w.mask)

/-- The content of a NOTICE, as a held or stored notice keeps it (R126, R127). -/
def NoticeReq.content (r : NoticeReq) : HeldNotice :=
  { kind := r.kind.getD .absent, reason := r.reason, sessions := r.sessions,
    firstDay := r.firstDay, lastDay := r.lastDay, contact := r.contact.toNat }

/-- The cause a header records: HEADER for a wrong check, LENGTH for a right check and a length over
240 (R162). -/
def Header.cause (h : Header) : Option LinkCause :=
  if h.check ≠ headerCheck h.kind h.tag h.length then some .header
  else if 240 < h.length.toNat then some .length
  else none

/-- Whether an octet of a header was itself the sync octet, so that the hunt finds a frame in it
(R162). -/
def Header.holdsSync (h : Header) : Bool := [h.kind, h.tag, h.length, h.check].contains 0x5A

end Sys2Proof

namespace Sys2Proof.Machine

open Sys2Proof

/-! ### WRITE-PLAN -/

/-- The first content check a WRITE-PLAN fails, with the entry it concerns (R21). -/
def planCheck (r : PlanReq) : Option (CheckName × Option Nat) :=
  if r.outOfRange then some (.range, none)
  else if r.invalidates then none
  else
    match r.entries.findIdx? (·.outOfRange), r.entries.findIdx? (·.badFloor) with
    | some i, _ => some (.range, some i)
    | none, some i => some (.floor, some i)
    | none, none =>
      match r.registrations .am, r.registrations .pm with
      | _ :: i :: _, _ => some (.secondAm, some i)
      | _, _ :: i :: _ => some (.secondPm, some i)
      | am, pm =>
        match am.head?, pm.head? with
        | none, some _ => some (.pmWithoutAm, none)
        | some a, some p =>
          if p < a then some (.pmBeforeAm, some p)
          else if 1380 < r.start + (r.entries.map (·.nominal)).sum then some (.tooLong, none)
          else none
        | _, none =>
          if 1380 < r.start + (r.entries.map (·.nominal)).sum then some (.tooLong, none)
          else none

/-! ### WRITE-COHORTS and WRITE-SETTINGS -/

/-- A today-override that is absent, NONE or 1 to 8 (R23). -/
def overrideOk : Override → Bool
  | .absent | .noPlan => true
  | .plan n => within 1 8 n

/-- The content checks of WRITE-COHORTS (R23): one to eight records. -/
def cohortsOk (records : List CohortReq) : Bool :=
  within 1 8 records.length
    && records.all (fun c => decide (c.cohort < 8) && c.weekdays.toList.all (fun p => decide (p ≤ 8))
        && overrideOk c.override)
    && decide (records.map (·.cohort)).Nodup

/-- The content checks of WRITE-SETTINGS (R27). -/
def settingsOk (r : SettingsReq) : Bool :=
  within 300 720 r.autoOpen && within 900 1380 r.autoClose && decide (r.weekdayBase ≤ 6)
    && r.pushMode.isSome && r.pushLength != 0

/-! ### SHIFT, WRITE-QUIET and RING -/

/-- A SHIFT's plan set: not empty, and no plan outside 1 to 8 (R38). -/
def shiftOk (r : ShiftReq) : Bool := !r.plans.isEmpty && r.plans.all (within 1 8)

/-- The window a WRITE-QUIET carries, when it passes the checks of R53. -/
def quietWindow : QuietReq → Option QuietWindow
  | .empty => some .empty
  | .clock first last zones =>
    if first ≤ 1439 ∧ last ≤ 1439 ∧ first < last ∧ zones ≠ 0 then some (.clock first last zones)
    else none
  | .anchored plan first last zones =>
    if within 1 8 plan ∧ first ≤ 23 ∧ last ≤ 23 ∧ first ≤ last ∧ zones ≠ 0 then
      some (.anchored plan first last zones)
    else none
  | .unknown => none

/-- The line pattern of a bell pattern; NONE rings nothing (R51, R52, R56). -/
def linePattern : BellPattern → Option LinePattern
  | .none => none
  | .short => some .short
  | .long => some .long
  | .pulsed => some .pulsed

/-! ### WRITE-PUPIL and WRITE-WINDOW -/

/-- RANGE of WRITE-PUPIL (R64 check 1). -/
def pupilInRange (r : PupilReq) : Bool :=
  decide (r.slot < Config.slots) && r.ref != 0 && decide (r.card ≤ 16777215)
    && decide (r.cohort ≤ 7) && decide (r.tutor ≤ 63) && decide (r.route ≤ 31)
    && decide (r.contacts.length ≤ 3)
    && r.contacts.all fun c => within 1 65535 c.contact && c.channel.isSome

/-- The content checks of WRITE-WINDOW (R71). -/
def cardWindowOk (w : CardWindow) : Bool :=
  decide (w.base ≤ 16777215) && decide (w.mask ≤ 16777215) && decide (w.slotBase < Config.slots)

/-! ### Card matching -/

/-- The lowest-numbered valid window that claims a card, with its number (R72). -/
def windowUsed (windows : Vector (Option CardWindow) 8) (card : Nat) : Option (Nat × CardWindow) :=
  windows.toList.zipIdx.findSome? fun e =>
    match e.1 with
    | some w => if w.claims card then some (e.2, w) else none
    | none => none

/-- The outcome of matching a card (R73). -/
def cardMatch (s : State) (card : Nat) : CardMatch :=
  match windowUsed s.pupils.windows card with
  | none => .unknown
  | some (i, w) =>
    let slot := w.derive card
    if slot < Config.slots then
      match pupilAt s slot with
      | some r => if r.card = card then .matched slot i r else .mismatch i slot
      | none => .mismatch i slot
    else .mismatch i slot

/-! ### MARK, GROUP-MARK, NOTICE and the rest -/

/-- The notice kind and reason a DESK MARK of NOTIFIED carries, ABSENT and 0 when it carries none;
absent when out of range (R88). -/
def markNotice : Option MarkNotice → Option NoticeMark
  | none => some ⟨.absent, 0⟩
  | some n => n.kind.bind fun k => if n.reason ≤ 15 then some ⟨k, n.reason⟩ else none

/-- The mark a GROUP-MARK asks for, when it passes the checks of R90. -/
def groupContents (r : GroupMarkReq) : Option GroupContents :=
  match r.mark with
  | some .offsite | some .authorised =>
    if r.groups ≠ 0 ∧ r.cohorts ≠ 0 ∧ r.sessions.isEmpty = false then
      r.mark.map fun m => ⟨r.groups, r.cohorts, r.sessions, m⟩
    else none
  | _ => none

/-- Check 1 of NOTICE (R126). -/
def noticeOk (r : NoticeReq) : Bool :=
  r.kind.isSome && decide (r.reason ≤ 15) && !r.sessions.isEmpty && !r.otherSessions
    && decide (r.firstDay ≤ r.lastDay) && r.contact != 0

/-- The checks of ROUTE-HOLD (R110). -/
def routeHoldOk (r : RouteHoldReq) : Bool := within 1 31 r.route && r.minutes != 0

/-! ### The frame's own checks -/

/-- One bit of the CRC register (R161). -/
def crcBit (register : BitVec 16) (bit : Bool) : BitVec 16 :=
  if register.msb != bit then (register <<< 1) ^^^ 0x8005 else register <<< 1

/-- One octet of the CRC register, most significant bit first (R161). -/
def crcOctet (register : BitVec 16) (octet : Octet) : BitVec 16 :=
  [7, 6, 5, 4, 3, 2, 1, 0].foldl (fun r i => crcBit r (octet.getLsbD i)) register

/-- The CRC over the octets from the kind to the last octet of the payload (R161). -/
def frameCrc (octets : List Octet) : BitVec 16 := octets.foldl crcOctet 0xFFFF

/-- Whether octets are a sound header and the payload its length gives (R161). -/
def frameBodyOk : List Octet → Bool
  | kind :: tag :: length :: check :: payload =>
    (Header.mk kind tag length check).cause.isNone && payload.length == length.toNat
  | _ => false

end Sys2Proof.Machine
end

