-- ==== Sys2Proof/Machine/Plans.lean ====
section
/-! DEFINITION. The Plan Store: the writes of plans, cohorts and settings, and READ-PLAN
(chapter 02). -/

namespace Sys2Proof.Machine

open Sys2Proof

/-- Changes the Plan Store alone. -/
def State.onStore (s : State) (f : PlanStore → PlanStore) : State := { s with store := f s.store }

/-! ### WRITE-PLAN -/

/-- A plan after a taken write: its content replaced whole, its revision one on, after 255 again 0
(R19, R21). -/
def DayPlan.write (plan : DayPlan) (r : PlanReq) : DayPlan := ⟨(plan.revision + 1) % 256, r.body⟩

/-- The reply to a taken WRITE-PLAN (R21). -/
def planWritten (number : Nat) (plan : DayPlan) : PlanWritten :=
  ⟨number, plan.revision, plan.body.isSome,
    plan.body.map fun b => (sessionSetOf b.entries, b.nominalEnd)⟩

/-- WRITE-PLAN taken (R20, R21). -/
def takeWritePlan (p : PortId) (r : PlanReq) (s : State) : State :=
  let plan := (nth s.store.plans ⟨0, none⟩ (r.plan - 1)).write r
  answer p .ok (r.entries.any (·.adjusted)) (.planWritten (planWritten r.plan plan))
    (s.onStore fun store => { store with plans := setNth store.plans (r.plan - 1) plan })

/-- WRITE-PLAN's effect: its content first, then the day state (R21, R26). -/
def serveWritePlan (p : PortId) (r : PlanReq) (s : State) : State :=
  match planCheck r with
  | some (name, entry) => answer p .badField false (.check name entry) s
  | none =>
    if s.day.state ≠ .closed ∧ inUse s r.plan = true then refuse p .busy s
    else takeWritePlan p r s

/-- WRITE_PLAN (R21). -/
def execWritePlan (f : Frame) (r : PlanReq) (s : State) : Host.Outcome State Fault Refusal :=
  request f .writePlan (serveWritePlan f.port r) s

/-! ### WRITE-COHORTS -/

/-- The cohort table after a taken WRITE-COHORTS: the records carried replace the stored ones
(R23). -/
def storeCohorts (records : List CohortReq) (store : PlanStore) : PlanStore :=
  { store with cohorts := records.foldl (fun v r => setNth v r.cohort r.stored) store.cohorts }

/-- WRITE-COHORTS's effect: its content first, then the day state (R23, R26). -/
def serveWriteCohorts (p : PortId) (records : List CohortReq) (s : State) : State :=
  if cohortsOk records then
    match s.day.state with
    | .closed => answerOk p .empty (s.onStore (storeCohorts records))
    | .opening | .open | .closing => refuse p .busy s
  else refuse p .badField s

/-- WRITE_COHORTS (R23). -/
def execWriteCohorts (f : Frame) (records : List CohortReq) (s : State) :
    Host.Outcome State Fault Refusal :=
  request f .writeCohorts (serveWriteCohorts f.port records) s

/-! ### WRITE-SETTINGS -/

/-- WRITE-SETTINGS's effect: its content first, then the day state (R27). -/
def serveWriteSettings (p : PortId) (r : SettingsReq) (s : State) : State :=
  if settingsOk r then
    if s.day.state ≠ .closed ∧ r.weekdayBase ≠ s.store.settings.weekdayBase then refuse p .busy s
    else
      answer p .ok (decide (30 < r.pushLength)) (.settings r.stored)
        (s.onStore fun store => { store with settings := r.stored })
  else refuse p .badField s

/-- WRITE_SETTINGS (R27). -/
def execWriteSettings (f : Frame) (r : SettingsReq) (s : State) : Host.Outcome State Fault Refusal :=
  request f .writeSettings (serveWriteSettings f.port r) s

/-! ### READ-PLAN -/

/-- The fields of a valid plan a READ-PLAN reply carries (R29). -/
def PlanBody.summary (b : PlanBody) : PlanSummary :=
  { start := b.start, count := b.entries.length, endPattern := b.endPattern, endZones := b.endZones,
    sessions := sessionSetOf b.entries, nominalEnd := b.nominalEnd }

/-- READ-PLAN for a plan (R29). -/
def answerPlan (p : PortId) (number start : Nat) (s : State) : State :=
  let plan := nth s.store.plans ⟨0, none⟩ (number - 1)
  let fixed : PlanRead :=
    { plan := number, valid := plan.body.isSome, revision := plan.revision,
      inUse := inUse s number, summary := plan.body.map (·.summary) }
  let entries := (plan.body.map (·.entries)).getD []
  let items := indexed (fun i e => (⟨i, e⟩ : EntryItem)) entries
  answerOk p
    (.plan fixed (indexedPart (replyLimit s p) (Config.fixedOctets fixed) start items)) s

/-- READ-PLAN COHORTS (R29). -/
def answerCohorts (p : PortId) (start : Nat) (s : State) : State :=
  let items := indexed (fun c r => (⟨c, r, cohortPlan s c⟩ : CohortItem)) s.store.cohorts.toList
  answerOk p (.cohorts (indexedPart (replyLimit s p) (Config.fixedOctets Kind.readPlan) start items)) s

/-- READ-PLAN's effect (R29). -/
def serveReadPlan (p : PortId) (selector : PlanSelector) (start : Nat) (s : State) : State :=
  match selector with
  | .plan number =>
    if within 1 8 number && decide (start ≤ 23) then answerPlan p number start s
    else refuse p .badField s
  | .cohorts => if start ≤ 7 then answerCohorts p start s else refuse p .badField s
  | .settings => answerOk p (.settings s.store.settings) s
  | .unknown => refuse p .badField s

/-- READ_PLAN (R29). -/
def execReadPlan (f : Frame) (selector : PlanSelector) (start : Nat) (s : State) :
    Host.Outcome State Fault Refusal :=
  request f .readPlan (serveReadPlan f.port selector start) s

end Sys2Proof.Machine
end

