-- ==== Sys2Proof/Machine/Flags.lean ====
section
/-! DEFINITION. The flags the part derives: the additions of the Term Accumulators with their limit
set, the levels of the output lines, and the counts and flags replies report. -/

namespace Sys2Proof.Machine

open Sys2Proof

/-! ### Additions that meet a limit -/

/-- An addition to a field that wraps at 65536, with whether it wrapped (R145). -/
def wrapField (a b : Nat) : Nat × Bool :=
  if 65535 < a + b then ((a + b) % 65536, true) else (a + b, false)

/-- An addition to a field that saturates at `top`, with whether it would have passed it (R145). -/
def satField (top a b : Nat) : Nat × Bool :=
  if top < a + b then (top, true) else (a + b, false)

/-- A lateness accrual's additions (R147): one late arrival, and when identity was confirmed one
timed late arrival and the minutes. -/
def Accumulator.addLateness (r : Accumulator) (confirmed : Bool) (minutes : Nat) : Accumulator :=
  let late := wrapField r.late 1
  let timed := wrapField r.timedLate (if confirmed then 1 else 0)
  let total := satField 65535 r.lateMinutes (if confirmed then minutes else 0)
  { r with
    late := late.1
    timedLate := timed.1
    lateMinutes := total.1
    limits :=
      { r.limits with
        late := r.limits.late || late.2
        timedLate := r.limits.timedLate || timed.2
        lateMinutes := r.limits.lateMinutes || total.2 } }

/-- An open-minutes accrual's addition (R148). -/
def Accumulator.addOpenMinutes (r : Accumulator) (minutes : Nat) : Accumulator :=
  let total := satField 65535 r.openMinutes minutes
  { r with
    openMinutes := total.1
    limits := { r.limits with openMinutes := r.limits.openMinutes || total.2 } }

/-- What a final mark adds to sessions possible, sessions attended and unexplained sessions
(R149). BLANK and NOT_SEEN do not reach a fold, and add nothing. -/
def foldAdds : Mark → Nat × Nat × Nat
  | .present | .late | .excusedLate | .offsite => (1, 1, 0)
  | .lateClosed | .unexplained => (1, 0, 1)
  | .notified | .authorised => (1, 0, 0)
  | .none | .blank | .notSeen => (0, 0, 0)

/-- One session's additions in a fold (R149). -/
def Accumulator.foldMark (r : Accumulator) (mark : Mark) : Accumulator :=
  let adds := foldAdds mark
  let possible := wrapField r.possible adds.1
  let attended := wrapField r.attended adds.2.1
  let unexplained := satField 255 r.unexplained adds.2.2
  { r with
    possible := possible.1
    attended := attended.1
    unexplained := unexplained.1
    limits :=
      { r.limits with
        possible := r.limits.possible || possible.2
        attended := r.limits.attended || attended.2
        unexplained := r.limits.unexplained || unexplained.2 } }

/-- Whether a limit set is not empty (R152). -/
def LimitSet.any (l : LimitSet) : Bool :=
  l.possible || l.attended || l.late || l.timedLate || l.lateMinutes || l.unexplained
    || l.openMinutes

/-! ### Output lines -/

/-- Whether a line record drives its BELL line high: while SOUNDING, but for PULSED with an even count
(R49). -/
def BellLine.high : BellLine → Bool
  | .silent => false
  | .sounding pattern left _ => pattern != .pulsed || left % 2 == 1

/-- The level of a port's PWR_EN: high while the port is ACTIVE, and high while RESET_N is low (R17,
R160). -/
def State.powerEnable (s : State) (p : PortId) : Bool :=
  !s.lines.resetN || decide ((s.port p).state = .active)

/-! ### Flags and counts of replies -/

/-- The unaccounted count: entries neither accounted nor departed (R158). -/
def unaccounted (entries : List RollEntry) : Nat :=
  entries.countP fun e => !e.accounted && !e.departed

/-- The fold-in-progress flag (R152). -/
def foldInProgress (s : State) : Bool := decide (s.day.state = .closing)

/-- The walker is PAUSED while it has a sweep or a group walk in hand and its alarm flag is set; with
the open or close walk in hand it is RUNNING whatever its alarm flag (R115). -/
def Walker.paused (w : Walker) : Bool :=
  match w.hand with
  | some (.item _) => w.alarm
  | some .openWalk | some .closeWalk | none => false

/-- Which sessions of a slot are still UNEXPLAINED, of a session set (R131). -/
def stillUnexplained (s : State) (slot : Nat) (set : SessionSet) : SessionSet :=
  ⟨set.am && decide (markOf s slot .am = .unexplained),
   set.pm && decide (markOf s slot .pm = .unexplained)⟩

/-- How many ENROLLED slots hold each mark in one session (R95). -/
def countMarks (marks : List Mark) : MarkCounts :=
  { none := marks.count .none, blank := marks.count .blank, present := marks.count .present,
    notSeen := marks.count .notSeen, late := marks.count .late,
    lateClosed := marks.count .lateClosed, excusedLate := marks.count .excusedLate,
    notified := marks.count .notified, authorised := marks.count .authorised,
    offsite := marks.count .offsite, unexplained := marks.count .unexplained }

end Sys2Proof.Machine
end

