-- ==== Sys2Proof/Machine/Roll.lean ====
section
/-! DEFINITION. The Site Roll: what a change of the alarm state does to the roll, the build walk,
presence changes, and the desk's requests (chapter 11). -/

namespace Sys2Proof.Machine

open Sys2Proof

/-- Changes the Site Roll alone. -/
def State.onRoll (s : State) (f : SiteRoll → SiteRoll) : State := { s with roll := f s.roll }

/-- The build starts at slot 0 with an empty list (R156). -/
def startBuild (r : SiteRoll) : SiteRoll := { r with state := .building 0, entries := [] }

/-- What a change of the alarm state does to the roll state (R155). -/
def rollTable (day : DayState) (alarm : Bool) (r : SiteRoll) : SiteRoll :=
  match r.state, alarm with
  | .idle, true => if day = .open then startBuild r else r
  | .active, false => { r with state := .standing }
  | .standing, true => { r with state := .active }
  | .idle, false | .building _, true | .building _, false | .active, true | .standing, false => r

/-- The Site Roll takes an assertion or a release of ALARM (R154, R155); the roll answers to a change
of the alarm state alone. -/
def rollAlarm (day : DayState) (alarm : Bool) (r : SiteRoll) : SiteRoll :=
  if r.alarm = alarm then r else rollTable day alarm { r with alarm := alarm }

/-- The roll emptied and IDLE (R159, R15). -/
def emptyRoll (r : SiteRoll) : SiteRoll := { r with state := .idle, entries := [] }

/-! ### Entries -/

/-- Whether the list holds an entry for a slot. -/
def SiteRoll.holds (r : SiteRoll) (slot : Nat) : Bool := r.entries.any (·.slot == slot)

/-- A new entry, its cohort and tutor group read from the Pupil Table (R156, R157). -/
def rollEntry (slot : Nat) (pupil : Pupil) (joiner : Bool) : RollEntry :=
  { slot := slot, cohort := pupil.cohort, tutor := pupil.tutor, accounted := false,
    joiner := joiner, departed := false }

/-- The order of built entries: cohort, then tutor group, then slot (R156). -/
def RollEntry.before (a b : RollEntry) : Bool :=
  decide (a.cohort < b.cohort)
    || (a.cohort == b.cohort
        && (decide (a.tutor < b.tutor) || (a.tutor == b.tutor && decide (a.slot < b.slot))))

/-- Places a built entry among the built entries, ahead of every joiner (R156). -/
def placeBuilt (e : RollEntry) : List RollEntry → List RollEntry
  | [] => [e]
  | x :: rest => if x.joiner || e.before x then e :: x :: rest else x :: placeBuilt e rest

/-- Changes the departed flag of a slot's entry (R157). -/
def setDeparted (slot : Nat) (departed : Bool) (r : SiteRoll) : SiteRoll :=
  { r with
    entries := r.entries.map fun e => if e.slot = slot then { e with departed := departed } else e }

/-! ### The build -/

/-- One visit of the build walk (R156). -/
def buildVisit (slot : Nat) (s : State) : State :=
  let s :=
    match pupilAt s slot with
    | some pupil =>
      if (recordAt s slot).presence = Presence.onSite ∧ s.roll.holds slot = false then
        s.onRoll fun r => { r with entries := placeBuilt (rollEntry slot pupil false) r.entries }
      else s
    | none => s
  s.onRoll fun r => { r with state := .building (slot + 1) }

/-- ROLL_BUILD_VISIT (R156). -/
def execRollBuildVisit (s : State) : Host.Outcome State Fault Refusal :=
  event
    (fun s =>
      match s.roll.state with
      | .building cursor => if cursor < Config.slots then buildVisit cursor s else s
      | .idle | .active | .standing => s)
    s

/-- The roll when its build completes (R156). -/
def finishBuild (r : SiteRoll) : SiteRoll :=
  { r with state := if r.alarm then .active else .standing }

/-- ROLL_BUILD_COMPLETE (R156): a build that has visited slot 2047 completes. -/
def execRollBuildComplete (s : State) : Host.Outcome State Fault Refusal :=
  event
    (fun s =>
      match s.roll.state with
      | .building cursor => if cursor = Config.slots then s.onRoll finishBuild else s
      | .idle | .active | .standing => s)
    s

/-! ### Presence changes -/

/-- Whether a pupil who comes on site with no entry joins at the back: always in ACTIVE and STANDING,
behind the build cursor in BUILDING (R157). -/
def SiteRoll.takesJoiner (r : SiteRoll) (slot : Nat) : Bool :=
  match r.state with
  | .idle => false
  | .building cursor => decide (slot < cursor)
  | .active | .standing => true

/-- The Site Roll takes a presence change (R157); in IDLE it changes nothing. R157 has rows for a change to
ON_SITE and for one away from ON_SITE, and none for a change from UNKNOWN to OFF_SITE, which R79 passes
too. The pass carries the new presence alone, so that change is taken as one away from ON_SITE: it sets the
departed flag of an entry the slot has been given meanwhile (DESIGN CHOICE, unsafe,
notes/assumptions/47). -/
def takePresence (p : PresencePass) (s : State) : State :=
  if s.roll.state = .idle then s
  else if p.presence = .onSite then
    if s.roll.holds p.slot then s.onRoll (setDeparted p.slot false)
    else
      match pupilAt s p.slot with
      | some pupil =>
        if s.roll.takesJoiner p.slot then
          s.onRoll fun r => { r with entries := r.entries ++ [rollEntry p.slot pupil true] }
        else s
      | none => s
  else s.onRoll (setDeparted p.slot true)

/-- PRESENCE_CHANGE (R157): the first presence change the Day Register has passed. -/
def execPresenceChange (s : State) : Host.Outcome State Fault Refusal :=
  event
    (fun s =>
      match s.wires.toRoll with
      | p :: rest => takePresence p { s with wires := { s.wires with toRoll := rest } }
      | [] => s)
    s

/-! ### The desk and the roll -/

/-- READ-ROLL's effect (R158). -/
def serveReadRoll (p : PortId) (start : Nat) (s : State) : State :=
  if start < Config.slots then
    let entries := s.roll.entries
    let fixed : RollRead := ⟨s.roll.alarm, s.roll.state, entries.length, unaccounted entries⟩
    let items := indexed (fun i e => (⟨i, e, refAt s e.slot⟩ : RollItem)) entries
    answerOk p
      (.roll fixed (indexedPart (replyLimit s p) (Config.fixedOctets fixed) start items)) s
  else refuse p .badField s

/-- READ_ROLL (R158). -/
def execReadRoll (f : Frame) (start : Nat) (s : State) : Host.Outcome State Fault Refusal :=
  request f .readRoll (serveReadRoll f.port start) s

/-- Whether the fields of an ACCOUNT are in range (R158). -/
def accountOk : AccountReq → Bool
  | .slot slot => decide (slot < Config.slots)
  | .tutor group => decide (group ≤ 63)

/-- Whether an ACCOUNT names an entry (R158). -/
def accountNames (req : AccountReq) (e : RollEntry) : Bool :=
  match req with
  | .slot slot => e.slot == slot
  | .tutor group => e.tutor == group

/-- The list with the entries an ACCOUNT names accounted (R158). -/
def accountEntries (req : AccountReq) (entries : List RollEntry) : List RollEntry :=
  entries.map fun e => if accountNames req e then { e with accounted := true } else e

/-- ACCOUNT's effect (R158). R158 answers a slot or tutor group out of range BAD_FIELD and a request in
IDLE BUSY, and orders neither before the other: the range goes first here, as in its text, and BUSY goes
before NOT_FOUND (DESIGN CHOICE, unsafe, notes/assumptions/44). -/
def serveAccount (p : PortId) (req : AccountReq) (s : State) : State :=
  if accountOk req then
    if s.roll.state = .idle then refuse p .busy s
    else if s.roll.entries.any (accountNames req) then
      let changed := s.roll.entries.countP fun e => accountNames req e && !e.accounted
      let s := s.onRoll fun r => { r with entries := accountEntries req r.entries }
      answerOk p (.accounted changed (unaccounted s.roll.entries)) s
    else refuse p .notFound s
  else refuse p .badField s

/-- ACCOUNT (R158). -/
def execAccount (f : Frame) (req : AccountReq) (s : State) : Host.Outcome State Fault Refusal :=
  request f .account (serveAccount f.port req) s

/-- ROLL-CLOSE's effect (R159). -/
def serveRollClose (p : PortId) (s : State) : State :=
  match s.roll.state with
  | .standing =>
    answerOk p (.rollClosed s.roll.entries.length (unaccounted s.roll.entries)) (s.onRoll emptyRoll)
  | .idle | .building _ | .active => refuse p .busy s

/-- ROLL_CLOSE (R159). -/
def execRollClose (f : Frame) (s : State) : Host.Outcome State Fault Refusal :=
  request f .rollClose (serveRollClose f.port) s

end Sys2Proof.Machine
end

