-- ==== Sys2Proof/Machine/Walker.lean ====
section
/-! DEFINITION. The register walker's hand and queue: how items join, in what order they are taken,
and what the alarm flag and a closing do to them (R115 to R118, R122, R123). -/

namespace Sys2Proof.Machine

open Sys2Proof

/-- An item's due stamp (R116). -/
def WalkItem.due : WalkItem → Stamp
  | .session i => i.due
  | .route i => i.due
  | .group i => i.due

/-- The place of an item among those of equal due stamps: session sweeps by plan and AM before PM,
then the route sweep, then the group mark (R117). -/
def WalkItem.rank : WalkItem → Nat
  | .session i => 2 * i.plan + (match i.session with | .am => 0 | .pm => 1)
  | .route _ => 100
  | .group _ => 101

/-- Whether one waiting item is taken before another (R117). -/
def WalkItem.before (a b : WalkItem) : Bool :=
  decide (0 < stampDiff b.due a.due)
    || (decide (stampDiff b.due a.due = 0) && decide (a.rank < b.rank))

/-- The items waiting (R115). -/
def Walker.waiting (w : Walker) : List WalkItem :=
  w.sessions.map .session ++ (w.route.map WalkItem.route).toList
    ++ (w.group.map WalkItem.group).toList

/-- The queue without an item. -/
def Walker.without (w : Walker) : WalkItem → Walker
  | .session i => { w with sessions := w.sessions.erase i }
  | .route _ => { w with route := none }
  | .group _ => { w with group := none }

/-- The walker takes a waiting item as its walk in hand whenever it is IDLE, its alarm flag is clear
and the queue is not empty (R117); a group-mark item makes the outcome state RUNNING (R90). -/
def takeItem (r : DayRegister) : DayRegister :=
  if r.walker.hand.isNone ∧ r.walker.alarm = false then
    match firstBy WalkItem.before r.walker.waiting with
    | none => r
    | some i =>
      { r with
        walker := { r.walker.without i with hand := some (.item i), cursor := 0 }
        group :=
          match i with
          | .group _ => { r.group with state := .running }
          | .session _ | .route _ => r.group }
  else r

/-- Changes the Day Register alone. -/
def State.onRegister (s : State) (f : DayRegister → DayRegister) : State :=
  { s with register := f s.register }

/-- A session sweep item joins the queue (R116). -/
def joinSession (i : SessionItem) (r : DayRegister) : DayRegister :=
  takeItem { r with walker := { r.walker with sessions := r.walker.sessions ++ [i] } }

/-- A route whose hold has expired is added to the waiting route sweep item, or makes one (R116). -/
def joinRoute (route : Nat) (due : Stamp) (r : DayRegister) : DayRegister :=
  takeItem
    { r with
      walker :=
        { r.walker with
          route :=
            match r.walker.route with
            | some i => some { i with routes := i.routes ||| only 32 route }
            | none => some ⟨only 32 route, due⟩ } }

/-- A group-mark item joins the queue, and the outcome record takes the request's contents
(R90, R116). -/
def joinGroup (c : GroupContents) (due : Stamp) (r : DayRegister) : DayRegister :=
  takeItem
    { r with
      walker := { r.walker with group := some ⟨c, due⟩ }
      group := ⟨.queued, some c, 0, 0, 0⟩ }

/-- Whether a group-mark item waits or a group walk is running or paused (R90); a walk that has visited
slot 2047 is running until its WALK_COMPLETE, so a GROUP-MARK between the two is BUSY (DESIGN CHOICE,
unsafe, notes/assumptions/26). -/
def Walker.groupBusy (w : Walker) : Bool :=
  w.group.isSome
    || (match w.hand with
        | some (.item (.group _)) => true
        | _ => false)

/-- The Site Roll passes a change of its alarm state to the walker (R122): a release lets an IDLE
walker take the earliest waiting item. -/
def walkerAlarm (alarm : Bool) (r : DayRegister) : DayRegister :=
  takeItem { r with walker := { r.walker with alarm := alarm } }

/-- A closing discards every waiting item and stops the walk in hand; a group mark among them makes
the outcome state STOPPED (R123, R90). A group walk that has visited slot 2047 is still in hand until
its WALK_COMPLETE, a row of its own, so a closing between the two makes its outcome STOPPED and not DONE
(DESIGN CHOICE, unsafe, notes/assumptions/26). -/
def stopWalks (r : DayRegister) : DayRegister :=
  { r with
    group := if r.walker.groupBusy then { r.group with state := .stopped } else r.group
    walker :=
      { r.walker with hand := none, cursor := 0, sessions := [], route := none, group := none } }

/-- The walk in hand completes: the walker becomes IDLE, a group walk's outcome state becomes DONE
(R118), and the next waiting item is taken (R117). -/
def dropWalk (r : DayRegister) : DayRegister :=
  takeItem
    { r with
      group :=
        match r.walker.hand with
        | some (.item (.group _)) => { r.group with state := .done }
        | _ => r.group
      walker := { r.walker with hand := none, cursor := 0 } }

/-- The cursor advances at the end of a visit (R118). -/
def advanceCursor (s : State) : State :=
  s.onRegister fun r => { r with walker := { r.walker with cursor := r.walker.cursor + 1 } }

/-- Whether the walker is to visit a slot: it has a walk in hand, is not PAUSED, and has not visited
slot 2047 yet (R118). -/
def Walker.visiting (w : Walker) : Bool :=
  w.hand.isSome && !w.paused && decide (w.cursor < Config.slots)

/-- WALK_COMPLETE (R118): a sweep or group walk that has visited slot 2047 completes. -/
def execWalkComplete (s : State) : Host.Outcome State Fault Refusal :=
  event
    (fun s =>
      match s.register.walker.hand with
      | some (.item _) =>
        if s.register.walker.cursor = Config.slots then s.onRegister dropWalk else s
      | some .openWalk | some .closeWalk | none => s)
    s

end Sys2Proof.Machine
end

