-- ==== Sys2Proof/Machine/Register.lean ====
section
/-! DEFINITION. The Day Register: the precedence table, what an applied change does, sign-in and
sign-out reports, teacher, desk and group marks, the amendment list and the reads of the register
(chapter 06). -/

namespace Sys2Proof.Machine

open Sys2Proof

/-! ### Proposals -/

/-- A proposal (R80): a NOTIFIED mark carries its notice kind and reason, and a SIGNIN of
EXCUSED_LATE says whether its excuse is a notice (R82). -/
structure Proposal where
  slot : Nat
  session : Session
  mark : Mark
  source : Source
  stamp : Stamp
  notice : Option NoticeMark
  excusedByNotice : Bool
deriving DecidableEq, Repr

/-- A proposal that carries a mark alone. -/
def plainProposal (slot : Nat) (session : Session) (mark : Mark) (source : Source) (stamp : Stamp) :
    Proposal :=
  ⟨slot, session, mark, source, stamp, none, false⟩

inductive Verdict where
  | apply | hold | conflict
deriving DecidableEq, Repr

/-- The precedence table (R81): the current mark in the row, the source in the column; `proposed`
decides the one cell that reads it. -/
def precedence (current : Mark) (source : Source) (proposed : Mark) : Verdict :=
  match current with
  | .blank | .notSeen => .apply
  | .present =>
    match source with
    | .teacher | .desk => .apply
    | .notice => .conflict
    | .signin | .group | .sweep | .final | .signout => .hold
  | .late | .lateClosed | .excusedLate =>
    match source with
    | .desk => .apply
    | .notice => .conflict
    | .teacher | .signin | .group | .sweep | .final | .signout => .hold
  | .notified =>
    match source with
    | .teacher => if proposed = .present then .apply else .hold
    | .signin | .notice | .desk | .signout => .apply
    | .group | .sweep | .final => .hold
  | .authorised =>
    match source with
    | .desk => .apply
    | .teacher | .signin | .notice | .group | .sweep | .final | .signout => .hold
  | .offsite =>
    match source with
    | .group | .desk => .apply
    | .teacher | .signin | .notice | .sweep | .final | .signout => .hold
  | .unexplained =>
    match source with
    | .sweep | .final => .hold
    | .teacher | .signin | .notice | .group | .desk | .signout => .apply
  | .none => .hold

/-! ### Messages the Day Register makes -/

/-- Tells the Message Unit (R83). -/
def tellMessages (m : ToMessages) (s : State) : State :=
  { s with wires := { s.wires with toMessages := s.wires.toMessages ++ [m] } }

/-- Asks the Term Accumulators (R83). -/
def tellAccumulators (m : ToAccumulators) (s : State) : State :=
  { s with wires := { s.wires with toAccumulators := s.wires.toAccumulators ++ [m] } }

/-- Changes a slot's presence (R79): a change to ON_SITE clears the returning flag, each change is
passed to the Site Roll, and a value the presence already has is not passed on. -/
def setPresence (slot : Nat) (presence : Presence) (s : State) : State :=
  let r := recordAt s slot
  if r.presence = presence then s
  else
    let s :=
      setRecord slot
        { r with
          presence := presence
          returning := if presence = .onSite then false else r.returning }
        s
    { s with wires := { s.wires with toRoll := s.wires.toRoll ++ [⟨slot, presence⟩] } }

/-- The presence an applied change to a mark makes (R79). -/
def presenceOf : Mark → Option Presence
  | .present | .late | .lateClosed | .excusedLate => some .onSite
  | .offsite => some .offSite
  | .none | .blank | .notSeen | .notified | .authorised | .unexplained => none

/-! ### The amendment list -/

/-- Sets the trail gap flag of a slot's session (R93). -/
def markGap (slot : Nat) (session : Session) (s : State) : State :=
  let r := recordAt s slot
  setRecord slot (r.setSession session { r.session session with trailGap := true }) s

/-- Appends an amendment; an append to a full list first removes the oldest entry, sets its trail
gap, counts it lost and reports TRAIL_OVERRUN with the stamp of the append (R92, R93). -/
def appendAmendment (a : Amendment) (s : State) : State :=
  match s.register.amendments with
  | old :: rest =>
    if Config.amendmentPlaces ≤ s.register.amendments.length then
      let s := markGap old.slot old.session s
      let s :=
        s.onRegister fun r =>
          { r with amendments := rest ++ [a], lost := satAdd 65535 r.lost 1 }
      reportFault ⟨.trailOverrun, none, some (.slot old.slot), now s⟩ s
    else s.onRegister fun r => { r with amendments := r.amendments ++ [a] }
  | [] => s.onRegister fun r => { r with amendments := [a] }

/-! ### Deciding a proposal -/

/-- Whether a session's notice is of a kind (R78). -/
def SessionMarks.noticeIs (m : SessionMarks) (k : NoticeKind) : Bool :=
  m.notice.any fun n => n.kind == k

/-- The mark an applied proposal writes: a SIGNIN onto NOTIFIED with notice kind LATE_EXPECTED
becomes EXCUSED_LATE (R82). -/
def appliedMark (m : SessionMarks) (p : Proposal) : Mark :=
  if p.source = .signin ∧ m.mark = .notified ∧ m.noticeIs .lateExpected then .excusedLate
  else p.mark

/-- Whether a source raises an alert on entering UNEXPLAINED (R84). -/
def raisesAlert : Source → Bool
  | .sweep | .desk => true
  | .teacher | .signin | .notice | .group | .signout | .final => false

/-- The per-session fields after an applied change that is not a repeat (R82 to R85). -/
def changedMarks (m : SessionMarks) (p : Proposal) (mark : Mark) : SessionMarks :=
  { mark := mark
    lastSource := some p.source
    lastChange := some p.stamp
    notice :=
      if mark = .notified then p.notice
      else if p.source = .signin ∧ m.mark = .notified ∧ m.noticeIs .absent then none
      else m.notice
    since := if mark = .unexplained ∧ raisesAlert p.source then some p.stamp else none
    expectedLate :=
      m.expectedLate
        || (p.source == .signin && mark == .excusedLate
            && (p.excusedByNotice || (m.mark == .notified && m.noticeIs .lateExpected)))
    trailGap := m.trailGap }

/-- Entering UNEXPLAINED from SWEEP or DESK asks for an alert (R84). -/
def enterUnexplained (p : Proposal) (ref : PupilRef) (mark : Mark) (s : State) : State :=
  if mark = .unexplained ∧ raisesAlert p.source then
    tellMessages (.raise p.slot ref p.session) s
  else s

/-- Leaving UNEXPLAINED passes the open minutes, if unexplained-since is present, and tells the
Message Unit (R85). -/
def leaveUnexplainedMark (m : SessionMarks) (p : Proposal) (ref : PupilRef) (mark : Mark)
    (s : State) : State :=
  if m.mark = .unexplained then
    let s :=
      match m.since with
      | some since =>
        tellAccumulators (.openMinutes p.slot ref (secondsBetween since p.stamp / 60)) s
      | none => s
    tellMessages (.leave p.slot ref p.session mark) s
  else s

/-- An applied change that is not a repeat (R83): the record, the presence, the amendment, and what
the neighbours are told. -/
def applyChange (m : SessionMarks) (p : Proposal) (ref : PupilRef) (mark : Mark) (s : State) :
    State :=
  let s := setRecord p.slot ((recordAt s p.slot).setSession p.session (changedMarks m p mark)) s
  let s :=
    match presenceOf mark with
    | some presence => setPresence p.slot presence s
    | none => s
  let s :=
    if m.mark = .blank then s
    else appendAmendment ⟨p.slot, p.session, m.mark, mark, p.source, p.stamp⟩ s
  enterUnexplained p ref mark (leaveUnexplainedMark m p ref mark s)

/-- A repeat changes nothing, except that NOTIFIED onto NOTIFIED replaces the notice kind and reason
and writes the last source and last change (R81, R82). -/
def applyRepeat (m : SessionMarks) (p : Proposal) (mark : Mark) (s : State) : State :=
  if mark = .notified then
    setRecord p.slot
      ((recordAt s p.slot).setSession p.session
        { m with notice := p.notice, lastSource := some p.source, lastChange := some p.stamp })
      s
  else s

/-- The Day Register decides a proposal (R80 to R85). -/
def propose (p : Proposal) (s : State) : State × Decision :=
  match pupilAt s p.slot with
  | none => (s, .notScheduled)
  | some pupil =>
    let m := (recordAt s p.slot).session p.session
    if m.mark = .none then (s, .notScheduled)
    else
      match precedence m.mark p.source p.mark with
      | .hold => (s, .held)
      | .conflict => (tellMessages (.conflict p.slot pupil.ref) s, .conflict)
      | .apply =>
        let mark := appliedMark m p
        if mark = m.mark then (applyRepeat m p mark s, .repeated)
        else (applyChange m p pupil.ref mark s, .applied)

/-- Decides one proposal for each session of a list, in order, with each outcome and the mark then
standing. -/
def proposeEach (make : Session → Proposal) : List Session → State → State × List SessionOutcome
  | [], s => (s, [])
  | session :: rest, s =>
    let p := make session
    let first := propose p s
    let others := proposeEach make rest first.1
    (others.1, ⟨session, first.2, markOf first.1 p.slot session⟩ :: others.2)

/-! ### Sign-in and sign-out reports -/

/-- A sign-in report (R86). -/
structure SignInReport where
  slot : Nat
  stamp : Stamp
  confirmed : Bool
  minutes : Option Nat
  proposal : Option Proposal
deriving DecidableEq, Repr

/-- The Day Register takes a sign-in report: it decides the proposal and records the sign-in,
whatever the outcome (R86). -/
def takeSignIn (r : SignInReport) (s : State) : State × Option Decision :=
  let decided :=
    match r.proposal with
    | some p => ((propose p s).1, some (propose p s).2)
    | none => (s, none)
  let s :=
    setRecord r.slot
      { recordAt decided.1 r.slot with
        signIn := some r.stamp, minutesLate := r.minutes, confirmed := r.confirmed }
      decided.1
  (setPresence r.slot .onSite s, decided.2)

/-- The Day Register takes a sign-out report: it records the sign-out, sets presence OFF_SITE and
decides a SIGNOUT proposal for each session of the authorise set (R87). -/
def takeSignOut (slot : Nat) (stamp : Stamp) (returning : Bool) (sessions : List Session)
    (s : State) : State × List SessionOutcome :=
  let s :=
    setRecord slot { recordAt s slot with signOut := some stamp, returning := returning } s
  let s := setPresence slot .offSite s
  proposeEach (fun session => plainProposal slot session .authorised .signout stamp) sessions s

/-! ### MARK -/

/-- Whether a session is closed to teachers for a plan (R89). -/
def closedFor (s : State) (plan : Nat) (session : Session) : Bool :=
  (nth s.register.closed ⟨false, false⟩ (plan - 1)).has session

/-- What MARK proposes, when its fields pass check 1 (R88). -/
def markContent (teacher : Bool) (r : MarkReq) : Option (Session × Mark × Option NoticeMark) :=
  match r.session, r.mark with
  | some session, some mark =>
    if teacher then
      if mark = .present ∨ mark = .notSeen then some (session, mark, none) else none
    else
      match mark with
      | .none | .blank => none
      | .notified => (markNotice r.notice).map fun n => (session, mark, some n)
      | _ => some (session, mark, none)
  | _, _ => none

/-- MARK taken in OPEN (R88). -/
def takeMark (p : PortId) (r : MarkReq) (s : State) : State :=
  let teacher := decide ((s.port p).role = .terminal)
  match markContent teacher r with
  | none => refuse p .badField s
  | some (session, mark, notice) =>
    match lookup s r.ref with
    | none => refuse p .notFound s
    | some (slot, pupil) =>
      let before := markOf s slot session
      if before = .none then refuse p .notScheduled s
      else if teacher && (cohortPlan s pupil.cohort).any (closedFor s · session) then
        refuse p .registerClosed s
      else
        let source := if teacher then Source.teacher else .desk
        let decided := propose ⟨slot, session, mark, source, now s, notice, false⟩ s
        let s := decided.1
        let d := decided.2
        let record := recordAt s slot
        let status := if d = .applied ∨ d = .repeated then Status.ok else .held
        answer p status false
          (.marked
            { slot := slot, session := session, before := before,
              standing := (record.session session).mark, repeated := decide (d = .repeated),
              presence := record.presence,
              notice := (record.session session).notice.map (·.kind) })
          s

/-- MARK by the day state (R13, R88). -/
def serveMark (p : PortId) (r : MarkReq) (s : State) : State :=
  gateOpen p (.mark r) (takeMark p r) s

/-- MARK (R88). -/
def execMark (f : Frame) (r : MarkReq) (s : State) : Host.Outcome State Fault Refusal :=
  request f .mark (serveMark f.port r) s

/-! ### GROUP-MARK -/

/-- GROUP-MARK: its content first, then the day state, then whether a group mark is already owed
(R90). -/
def serveGroupMark (p : PortId) (r : GroupMarkReq) (s : State) : State :=
  match groupContents r with
  | none => refuse p .badField s
  | some c =>
    gateOpen p (.groupMark r)
      (fun s =>
        if s.register.walker.groupBusy then refuse p .busy s
        else answerOk p .empty (s.onRegister (joinGroup c (now s))))
      s

/-- GROUP_MARK (R90). -/
def execGroupMark (f : Frame) (r : GroupMarkReq) (s : State) : Host.Outcome State Fault Refusal :=
  request f .groupMark (serveGroupMark f.port r) s

/-! ### Reading the register -/

/-- A slot as READ-REGISTER returns it (R95). -/
def registerView (s : State) (slot : Nat) : RegisterView :=
  ⟨slot, recordAt s slot, pupilPlan s slot⟩

/-- Whether a slot's record passes a LIST filter (R95). -/
def filterAdmits (s : State) (filter : Option (Session × List Mark)) (slot : Nat) : Bool :=
  match filter with
  | none => true
  | some (session, marks) => marks.contains (markOf s slot session)

/-- READ-REGISTER LIST (R95). R95 gives a LIST whole records, each with its slot, and names the pupil's
plan for today for SLOT alone: here each item of a LIST carries that plan too (DESIGN CHOICE, unsafe,
notes/assumptions/48). -/
def readRegisterList (p : PortId) (start : Nat) (filter : Option (Session × List Mark)) (s : State) :
    State :=
  let slots := ((enrolled s).map (·.1)).filter fun k => decide (start ≤ k) && filterAdmits s filter k
  let views := slots.map (registerView s)
  answerOk p
    (.registers
      (slotPart (replyLimit s p) (Config.fixedOctets Kind.readRegister) (·.slot) views)) s

/-- How many of the 2048 slots, EMPTY ones among them, hold a presence (R95). -/
def slotsWith (s : State) (presence : Presence) : Nat :=
  (List.range Config.slots).countP fun k => (recordAt s k).presence == presence

/-- READ-REGISTER SUMMARY (R95): marks are counted over the ENROLLED slots, presences over every
slot. -/
def registerSummary (s : State) : RegisterSummary :=
  let records := (enrolled s).map fun e => recordAt s e.1
  { am := countMarks (records.map (·.am.mark)), pm := countMarks (records.map (·.pm.mark)),
    onSite := slotsWith s .onSite, offSite := slotsWith s .offSite,
    unknown := slotsWith s .unknown, amendments := s.register.amendments.length,
    lost := s.register.lost, closed := s.register.closed, group := s.register.group }

/-- READ-REGISTER taken (R95). -/
def takeReadRegister (p : PortId) (selector : RegisterSelector) (s : State) : State :=
  match selector with
  | .slot slot =>
    if slot < Config.slots then answerOk p (.register (registerView s slot)) s
    else refuse p .badField s
  | .reference ref =>
    match lookup s ref with
    | some (slot, _) => answerOk p (.register (registerView s slot)) s
    | none => refuse p .notFound s
  | .list start none =>
    if start < Config.slots then readRegisterList p start none s else refuse p .badField s
  | .list start (some filter) =>
    match filter.session with
    | some session =>
      if start < Config.slots then readRegisterList p start (some (session, filter.marks)) s
      else refuse p .badField s
    | none => refuse p .badField s
  | .summary => answerOk p (.summary (registerSummary s)) s
  | .unknown => refuse p .badField s

/-- READ-REGISTER by the day state (R13, R95). -/
def serveReadRegister (p : PortId) (selector : RegisterSelector) (s : State) : State :=
  gateRegister p (.readRegister selector) (takeReadRegister p selector) s

/-- READ_REGISTER (R95). -/
def execReadRegister (f : Frame) (selector : RegisterSelector) (s : State) :
    Host.Outcome State Fault Refusal :=
  request f .readRegister (serveReadRegister f.port selector) s

/-- READ-CHANGES taken (R94): the entries returned are removed and the lost count is cleared. -/
def takeReadChanges (p : PortId) (s : State) : State :=
  let fixed : ChangesRead := ⟨s.register.lost, s.register.amendments.length⟩
  let items := fit (replyLimit s p) (Config.fixedOctets fixed) s.register.amendments
  answerOk p (.changes fixed items)
    (s.onRegister fun r => { r with amendments := r.amendments.drop items.length, lost := 0 })

/-- READ-CHANGES by the day state (R13, R94). -/
def serveReadChanges (p : PortId) (s : State) : State :=
  gateRegister p .readChanges (takeReadChanges p) s

/-- READ_CHANGES (R94). -/
def execReadChanges (f : Frame) (s : State) : Host.Outcome State Fault Refusal :=
  request f .readChanges (serveReadChanges f.port) s

/-! ### Alert states -/

/-- The Day Register takes the alert state report made first; it discards one whose slot no longer
holds its pupil (R132). -/
def takeReport (s : State) : State :=
  match s.wires.reports with
  | [] => s
  | r :: rest =>
    let s := { s with wires := { s.wires with reports := rest } }
    if holdsRef s r.slot r.ref then setRecord r.slot { recordAt s r.slot with alert := r.alert } s
    else s

/-- ALERT_STATE_REPORT (R132). -/
def execAlertStateReport (s : State) : Host.Outcome State Fault Refusal := event takeReport s

end Sys2Proof.Machine
end

