-- ==== Sys2Proof/Machine/Bells.lean ====
section
/-! DEFINITION. The Bell Unit: line records, bell requests, quiet windows, the office push and the
alarm flag (chapter 04), with the meanings of its commands. -/

namespace Sys2Proof.Machine

open Sys2Proof

/-! ### One line -/

/-- The seconds a pattern runs (R49); a CONTINUOUS request carries its own length (R51). -/
def patternLength : LinePattern → Nat
  | .short => 3
  | .long => 8
  | .pulsed => 5
  | .continuous => 0

/-- A line after a request for it: a SILENT line starts the pattern, a SOUNDING line is merged (R51).
Two requests that are one and the same, taken together on a SILENT line, are two requests here: the
second merges and makes the line CONTINUOUS. R51's merge has it so, and R51's last words on requests taken
together give the request's own pattern (DESIGN CHOICE, unsafe, notes/assumptions/42). -/
def BellLine.ring (pattern : LinePattern) (length : Nat) : BellLine → BellLine
  | .silent => .sounding pattern length false
  | .sounding _ left follow => .sounding .continuous (max left length) follow

/-- A line a FOLLOW push takes hold of (R58). -/
def BellLine.follow : BellLine → BellLine
  | .silent => .sounding .continuous 0 true
  | .sounding _ left _ => .sounding .continuous left true

/-- A line the follow is withdrawn from (R58). -/
def BellLine.unfollow : BellLine → BellLine
  | .silent => .silent
  | .sounding _ left _ => if left = 0 then .silent else .sounding .continuous left false

/-- A line after a second event has lowered its count (R50). -/
def BellLine.tick : BellLine → BellLine
  | .silent => .silent
  | .sounding pattern left follow => .sounding pattern (left - 1) follow

/-- A line whose count has reached 0 falls SILENT unless its follow flag is set (R50). -/
def BellLine.expire : BellLine → BellLine
  | .silent => .silent
  | .sounding pattern left follow =>
    if left = 0 ∧ follow = false then .silent else .sounding pattern left follow

/-! ### The Bell Unit as a whole -/

/-- Applies a change to the lines of a zone set. -/
def BellUnit.onZones (u : BellUnit) (zones : EightSet) (f : BellLine → BellLine) : BellUnit :=
  { u with lines := mapNth (fun z l => if zones.getLsbD z.val then f l else l) u.lines }

/-- A FOLLOWING push whose limit has reached 0: the follow is withdrawn and the state becomes HELD
(R58). -/
def BellUnit.limitReached (u : BellUnit) : BellUnit :=
  match u.push with
  | .following zones 0 => { u.onZones zones BellLine.unfollow with push := .held }
  | _ => u

/-- The Bell Unit with the expiries of its last second event taken: the push limit, then every line
whose count has reached 0. A request or a second event meets the lines so settled
(notes/assumptions/7). -/
def BellUnit.settle (u : BellUnit) : BellUnit :=
  let u := u.limitReached
  { u with lines := mapNth (fun _ l => l.expire) u.lines }

/-- The level of a BELL line; low while RESET_N is low (R49). A count and a push limit that have reached
0 act on it at once, though their expiries are commands of their own (R50, R58;
notes/assumptions/7). -/
def State.bell (s : State) (z : Zone) : Bool :=
  s.lines.resetN && (s.bells.settle.lines[z]).high

/-- A second event: every count above 0 goes down by one, and so does the push limit (R50, R58). -/
def BellUnit.second (u : BellUnit) : BellUnit :=
  let u := u.settle
  { u with
    lines := mapNth (fun _ l => l.tick) u.lines
    push :=
      match u.push with
      | .following zones limit => .following zones (limit - 1)
      | .released => .released
      | .held => .held }

/-- A bell request (R51): discarded whole while the alarm flag is set. -/
def BellUnit.request (u : BellUnit) (zones : EightSet) (pattern : LinePattern) (length : Nat) :
    BellUnit :=
  if u.alarm then u else u.settle.onZones zones (BellLine.ring pattern length)

/-- The zones of a set whose lines are SILENT, which a request starts (R51). -/
def BellUnit.silentZones (u : BellUnit) (zones : EightSet) : EightSet :=
  (List.finRange 8).foldl
    (fun set (z : Zone) =>
      if zones.getLsbD z.val ∧ u.settle.lines[z] = .silent then set ||| only 8 z.val else set) 0

/-- An assertion of ALARM (R60). -/
def BellUnit.alarmOn (u : BellUnit) : BellUnit :=
  { u with
    alarm := true
    lines := Vector.replicate 8 .silent
    push :=
      match u.push with
      | .following _ _ => .held
      | .released => .released
      | .held => .held }

/-- A release of ALARM (R61). -/
def BellUnit.alarmOff (u : BellUnit) : BellUnit := { u with alarm := false }

/-- An assertion of PUSH, taken in RELEASED (R57, R58). -/
def BellUnit.pushOn (u : BellUnit) (settings : Settings) : BellUnit :=
  match u.push with
  | .released =>
    if u.alarm then { u with push := .held }
    else
      match settings.pushMode with
      | .timed =>
        { u.request settings.pushZones .continuous settings.pushLength with push := .held }
      | .follow =>
        { u.settle.onZones settings.pushZones BellLine.follow with
          push := .following settings.pushZones 60 }
  | .held | .following _ _ => u

/-- A release of PUSH (R59). -/
def BellUnit.pushOff (u : BellUnit) : BellUnit :=
  match u.push with
  | .released => u
  | .held => { u with push := .released }
  | .following zones _ => { u.onZones zones BellLine.unfollow with push := .released }

/-- Changes the Bell Unit alone. -/
def State.onBells (s : State) (f : BellUnit → BellUnit) : State := { s with bells := f s.bells }

/-! ### Quiet windows and timetable bells -/

/-- The committed effective timetable of a plan, if the plan is in use today (R31, R44). -/
def tableOf (s : State) (plan : Nat) : Option PlanTable :=
  s.timetable.tables.find? (·.plan == plan)

/-- The span an ANCHORED window covers, in running minutes; none when it covers nothing (R54). -/
def anchoredSpan (s : State) (plan first last : Nat) : Option (Nat × Nat) :=
  (tableOf s plan).bind fun t =>
    match t.entries[first]?, t.entries[last]? with
    | some a, some b => some (a.start, b.start + b.length)
    | _, _ => none

/-- The zones a window covers at a request minute (R54). -/
def windowCover (s : State) (minute : Nat) : QuietWindow → EightSet
  | .empty => 0
  | .clock first last zones =>
    if first ≤ minute % 1440 ∧ minute % 1440 < last then zones else 0
  | .anchored plan first last zones =>
    match anchoredSpan s plan first last with
    | some (a, b) => if a ≤ minute ∧ minute < b then zones else 0
    | none => 0

/-- The zones covered at a request minute: the union over the windows that cover it (R54). -/
def coveredZones (s : State) (minute : Nat) : EightSet :=
  s.bells.quiet.toList.foldl (fun set w => set ||| windowCover s minute w) 0

/-- A bell request of the timetable, at the Timetable Engine's current minute: NONE and an empty
zone set make none, and covered zones are taken out (R52). -/
def timetableBell (pattern : BellPattern) (zones : EightSet) (s : State) : State :=
  match linePattern pattern, s.timetable.current with
  | some p, some minute =>
    let zones := zones &&& ~~~(coveredZones s minute)
    if zones = 0 then s else s.onBells (·.request zones p (patternLength p))
  | _, _ => s

/-- A quiet window as WRITE-QUIET returns it (R53). -/
def quietItem (s : State) (w : QuietWindow) : QuietItem :=
  ⟨w, match w with
      | .empty | .clock _ _ _ => .notAnchored
      | .anchored plan first last _ =>
        match anchoredSpan s plan first last with
        | some (a, b) => .span a b
        | none => .inactive⟩

/-! ### Meanings -/

/-- BELL_COUNT_EXPIRY (R50): a line whose seconds left have reached 0 falls SILENT unless its follow
flag is set. -/
def execBellCountExpiry (zone : Zone) (s : State) : Host.Outcome State Fault Refusal :=
  event (fun s => s.onBells fun u => { u with lines := u.lines.set zone (u.lines[zone]).expire }) s

/-- PUSH_ASSERT (R57, R58). The level of the line changes whatever the part does. -/
def execPushAssert (s : State) : Host.Outcome State Fault Refusal :=
  event (fun s => s.onBells (·.pushOn s.store.settings))
    { s with lines := { s.lines with push := true } }

/-- PUSH_RELEASE (R59). -/
def execPushRelease (s : State) : Host.Outcome State Fault Refusal :=
  event (fun s => s.onBells (·.pushOff)) { s with lines := { s.lines with push := false } }

/-- PUSH_LIMIT_EXPIRY (R58): a push limit that has reached 0 withdraws the follow. -/
def execPushLimitExpiry (s : State) : Host.Outcome State Fault Refusal :=
  event (fun s => s.onBells (·.limitReached)) s

/-- WRITE-QUIET's effect (R53). -/
def serveWriteQuiet (p : PortId) (number : Nat) (r : QuietReq) (s : State) : State :=
  match quietWindow r with
  | some w =>
    if number < 8 then
      let s := s.onBells fun u => { u with quiet := setNth u.quiet number w }
      answerOk p (.quiet (s.bells.quiet.toList.map (quietItem s))) s
    else refuse p .badField s
  | none => refuse p .badField s

/-- WRITE_QUIET (R53). -/
def execWriteQuiet (f : Frame) (number : Nat) (r : QuietReq) (s : State) :
    Host.Outcome State Fault Refusal :=
  request f .writeQuiet (serveWriteQuiet f.port number r) s

/-- RING's effect (R56): quiet windows are not applied. -/
def serveRing (p : PortId) (zones : EightSet) (pattern : Option BellPattern) (s : State) : State :=
  match pattern.bind linePattern with
  | some k =>
    if zones = 0 then refuse p .badField s
    else
      let started := if s.bells.alarm then 0 else s.bells.silentZones zones
      let merged := if s.bells.alarm then 0 else zones &&& ~~~started
      let discarded := s.bells.alarm
      let s := s.onBells (·.request zones k (patternLength k))
      answerOk p (.rung ⟨started, merged, discarded, s.bells.lines⟩) s
  | none => refuse p .badField s

/-- RING (R56). -/
def execRing (f : Frame) (zones : EightSet) (pattern : Option BellPattern) (s : State) :
    Host.Outcome State Fault Refusal :=
  request f .ring (serveRing f.port zones pattern) s

end Sys2Proof.Machine
end

