-- ==== Sys2Proof/Machine/Timetable.lean ====
section
/-! DEFINITION. The Timetable Engine: effective timetables and the events they raise, the
compression computation, the recompute in flight and the reads of a table (chapter 03). -/

namespace Sys2Proof.Machine

open Sys2Proof

/-! ### The table of a plan -/

/-- Where an entry ends. -/
def EffEntry.ends (e : EffEntry) : Nat := e.start + e.length

/-- Entries laid one after another from a start, each at its nominal length (R32). -/
def layEntries : Nat → List Entry → List EffEntry
  | _, [] => []
  | start, e :: rest => ⟨e, start, e.nominal, false⟩ :: layEntries (start + e.nominal) rest

/-- The table of a plan in use today, as an opening builds it from nominal (R32). -/
def buildTable (plan : Nat) (b : PlanBody) : PlanTable :=
  let sessions := sessionSetOf b.entries
  { plan := plan, entries := layEntries b.start b.entries, endPattern := b.endPattern,
    endZones := b.endZones, effEnd := b.nominalEnd, delayTotal := 0, earlyTotal := 0,
    shortTotal := 0, state := .waiting,
    am := if sessions.am then some ⟨none, false⟩ else none,
    pm := if sessions.pm then some ⟨none, false⟩ else none }

def PlanTable.session (t : PlanTable) : Session → Option SessionRecord
  | .am => t.am
  | .pm => t.pm

def PlanTable.setSession (t : PlanTable) (session : Session) (r : Option SessionRecord) :
    PlanTable :=
  match session with
  | .am => { t with am := r }
  | .pm => { t with pm := r }

/-- The REGISTRATION entry of a session (R20). -/
def PlanTable.registration (t : PlanTable) (session : Session) : Option EffEntry :=
  t.entries.find? (·.entry.registers session)

/-- Whether a session's registration entry has begun (R34). -/
def PlanTable.sessionBegun (t : PlanTable) (session : Session) : Bool :=
  (t.registration session).any (·.begun)

/-- A REGISTRATION entry's effective start plus its grace (R31). -/
def EffEntry.closes (e : EffEntry) : Nat := e.start + e.entry.grace.getD 0

/-- A session's close minute: the fixed one once close-fixed is set, its registration entry's start
plus grace before (R31). -/
def PlanTable.closeMinute (t : PlanTable) (session : Session) : Option Nat :=
  (t.session session).bind fun r =>
    match r.fixedClose with
    | some m => some m
    | none => (t.registration session).map (·.closes)

/-- Replaces a plan's table. -/
def setTable (t : PlanTable) (s : State) : State :=
  { s with timetable :=
      { s.timetable with
        tables := s.timetable.tables.map fun u => if u.plan = t.plan then t else u } }

/-- The plans that have a table, in ascending order. -/
def tablePlans (s : State) : List Nat := s.timetable.tables.map (·.plan)

/-! ### Running minutes -/

/-- The running minute of a minute of a day number: of the register day or of the day after it
(R33). -/
def runningMinute (s : State) (minute : Nat) (d : DayNumber) : Option Nat :=
  s.day.register.bind fun r =>
    if d = r then some minute else if d = r + 1 then some (1440 + minute) else none

/-- The stamp at which a running minute begins (R116). -/
def runningStamp (s : State) (minute : Nat) : Stamp :=
  ⟨minute % 1440 * 60, s.day.register.getD 0 + BitVec.ofNat 16 (minute / 1440)⟩

/-! ### Events from the table -/

/-- An entry-start event (R34). -/
structure EntryStart where
  plan : Nat
  index : Nat
  kind : EntryKind
  start : Nat
  pattern : BellPattern
  zones : EightSet
  late : Bool
deriving DecidableEq, Repr

/-- Whether an entry is to begin at a running minute: its begun flag is clear and its effective start
is at or before it (R34). -/
def EffEntry.due (minute : Nat) (e : EffEntry) : Bool := !e.begun && decide (e.start ≤ minute)

/-- The entry-start events of a table at a running minute, in entry order (R34). The late flag is set
when the start is before the minute, and for every entry that a swap begins (`swapped`, R46). -/
def PlanTable.starts (t : PlanTable) (swapped : Bool) (minute : Nat) : List EntryStart :=
  (t.entries.zipIdx.filter fun e => e.1.due minute).map fun e =>
    { plan := t.plan, index := e.2, kind := e.1.entry.kind, start := e.1.start,
      pattern := e.1.entry.pattern, zones := e.1.entry.zones,
      late := swapped || decide (e.1.start < minute) }

/-- A session record when its registration entry begins: close-fixed is set (R35). -/
def PlanTable.fixClose (t : PlanTable) (minute : Nat) (session : Session) : PlanTable :=
  match t.session session, t.registration session with
  | some r, some e =>
    if e.due minute then t.setSession session (some { r with fixedClose := some e.closes }) else t
  | _, _ => t

/-- A table with every entry due at a running minute begun (R34, R35). -/
def PlanTable.begin (t : PlanTable) (minute : Nat) : PlanTable :=
  let fixed := (t.fixClose minute .am).fixClose minute .pm
  { fixed with
    entries := t.entries.map fun e => if e.due minute then { e with begun := true } else e
    state :=
      match t.state with
      | .waiting => if t.entries.any (·.due minute) then .running else .waiting
      | .running => .running
      | .ended => .ended }

/-- The Bell Unit takes an entry-start event (R52). -/
def takeStart (s : State) (e : EntryStart) : State := timetableBell e.pattern e.zones s

/-- Begins the due entries of one plan's table and raises their entry-start events (R34). -/
def beginEntries (swapped : Bool) (minute : Nat) (s : State) (plan : Nat) : State :=
  match tableOf s plan with
  | none => s
  | some t =>
    let starts := t.starts swapped minute
    starts.foldl takeStart (setTable (t.begin minute) s)

/-- A registration-close event reaches the Day Register: the closed flag is set and a session sweep
item joins (R35, R89, R116). -/
def closeRegister (plan : Nat) (session : Session) (minute : Nat) (s : State) : State :=
  s.onRegister fun r =>
    joinSession ⟨plan, session, runningStamp s minute⟩
      { r with
        closed :=
          setNth r.closed (plan - 1) ((nth r.closed ⟨false, false⟩ (plan - 1)).put session true) }

/-- Raises the registration-close event of one session when it is due (R35). -/
def raiseClose (minute : Nat) (plan : Nat) (s : State) (session : Session) : State :=
  match tableOf s plan with
  | none => s
  | some t =>
    match t.session session, t.closeMinute session with
    | some r, some close =>
      if t.sessionBegun session ∧ r.raised = false ∧ close ≤ minute then
        closeRegister plan session close
          (setTable (t.setSession session (some { r with raised := true })) s)
      else s
    | _, _ => s

/-- Raises the registration-close events of one plan's table (R35). R35 gives no order between the two
sessions of a table that close at one event: AM goes before PM (DESIGN CHOICE, unsafe,
notes/assumptions/12), so an IDLE walker takes the AM sweep at once. -/
def raiseCloses (minute : Nat) (s : State) (plan : Nat) : State :=
  raiseClose minute plan (raiseClose minute plan s .am) .pm

/-- A plan-end event (R36). -/
structure PlanEnd where
  plan : Nat
  effEnd : Nat
  pattern : BellPattern
  zones : EightSet
  late : Bool
deriving DecidableEq, Repr

/-- The plan-end event of a table at a running minute, when it is due: RUNNING, with every entry begun
and its effective end at or before the minute (R36). -/
def PlanTable.planEnd (t : PlanTable) (minute : Nat) : Option PlanEnd :=
  if t.state = .running ∧ t.entries.all (·.begun) = true ∧ t.effEnd ≤ minute then
    some
      { plan := t.plan, effEnd := t.effEnd, pattern := t.endPattern, zones := t.endZones,
        late := decide (t.effEnd < minute) }
  else none

/-- The Bell Unit takes a plan-end event (R52). -/
def takeEnd (e : PlanEnd) (s : State) : State := timetableBell e.pattern e.zones s

/-- Raises the plan-end event of one plan's table when it is due, and its plan is ENDED (R36). -/
def raiseEnd (minute : Nat) (s : State) (plan : Nat) : State :=
  match tableOf s plan with
  | none => s
  | some t =>
    match t.planEnd minute with
    | some e => takeEnd e (setTable { t with state := .ended } s)
    | none => s

/-! ### The passes of a recompute -/

/-- Whether the computation of every plan of the recompute has completed, so that its swap is due
(R46). -/
def Recompute.complete (r : Recompute) : Bool := r.passes.all (·.result.isSome)

/-- The passes of a recompute once a minute event has begun entries of some plans: a pass of one of
those plans starts again from the committed table while it is running (R45), and also once every pass has
completed, since the minute event is then taken before a swap that is due (R46). While another plan's
pass is running, a completed pass stands (R45). R45 and R46 do not say together what becomes of a
completed pass whose swap is due: the model has R46 govern it (DESIGN CHOICE, unsafe,
notes/assumptions/43). -/
def Recompute.restart (r : Recompute) (tables : List PlanTable) (begun : List Nat) : Recompute :=
  { r with
    passes := r.passes.map fun x =>
      match tables.find? (·.plan == x.plan) with
      | some t =>
        if begun.contains x.plan && (x.result.isNone || r.complete) then ⟨x.plan, t, none⟩ else x
      | none => x }

/-- The recompute in flight, if there is one, has the passes of the plans begun start again (R45,
R46). -/
def restartPasses (begun : List Nat) (s : State) : State :=
  { s with timetable :=
      { s.timetable with
        recompute := s.timetable.recompute.map (·.restart s.timetable.tables begun) } }

/-- Whether a plan's table has an entry to begin at a running minute (R34). -/
def beginsAt (s : State) (minute plan : Nat) : Bool :=
  (tableOf s plan).any (·.entries.any (·.due minute))

/-! ### Minute events -/

/-- What the tables of some plans raise at a running minute: entry starts, then closes, then plan
ends (R34 to R36), at a swap or at any other time (R46), and then the passes that these entry starts
have start again, from the tables as they now stand (R45). The plans go in the order given
(notes/assumptions/12). -/
def raiseDue (swapped : Bool) (minute : Nat) (plans : List Nat) (s : State) : State :=
  let begun := plans.filter (beginsAt s minute)
  let s := plans.foldl (beginEntries swapped minute) s
  let s := plans.foldl (raiseCloses minute) s
  restartPasses begun (plans.foldl (raiseEnd minute) s)

/-- Sets the Timetable Engine's current minute. -/
def setCurrent (minute : Option Nat) (s : State) : State :=
  { s with timetable := { s.timetable with current := minute } }

/-- The Timetable Engine takes a minute event (R33, R34, R37): in OPEN it sets the current minute and
raises what is then due, in CLOSING it sets the current minute alone, and the current minute stays
absent through OPENING. What the current minute is after an event of a day number that has no running
minute is open in R33: it keeps the value it had (DESIGN CHOICE, unsafe, notes/assumptions/16). -/
def timetableMinute (minute : Nat) (d : DayNumber) (s : State) : State :=
  match s.day.state, runningMinute s minute d with
  | .open, some m => raiseDue false m (tablePlans s) (setCurrent (some m) s)
  | .closing, some m => setCurrent (some m) s
  | .closed, _ | .opening, _ | .open, none | .closing, none => s

/-! ### The compression computation -/

/-- An entry's slack: what a future compressible entry may still lose (R40). -/
def EffEntry.slack (e : EffEntry) : Nat :=
  if !e.begun && e.entry.compressible then e.length - e.entry.floor else 0

/-- The sum S of the slack of the future entries (R40). -/
def PlanTable.totalSlack (t : PlanTable) : Nat := (t.entries.map EffEntry.slack).sum

/-- An entry's first part, for a cut C below S (R41). -/
def firstPart (cut total slack : Nat) : Nat := cut * slack / total

/-- An entry's remainder (R41). -/
def remainder (cut total slack : Nat) : Nat := cut * slack % total

/-- How many entries rank before place `i` by remainder, the earlier entry first among equals
(R41). -/
def rankAt (remainders : List Nat) (i : Nat) : Nat :=
  let mine := remainders.getD i 0
  (remainders.zipIdx.countP fun r => decide (mine < r.1) || (r.1 == mine && decide (r.2 < i)))

/-- The cut of each entry, for the slacks of the entries and a cut C (R41): nothing when C is 0, the
whole slack when C is at or above S, and otherwise the first part with one further minute for the
entries of the largest remainders. -/
def cuts (cut : Nat) (slacks : List Nat) : List Nat :=
  let total := slacks.sum
  if cut = 0 then slacks.map fun _ => 0
  else if total ≤ cut then slacks
  else
    let remainders := slacks.map (remainder cut total)
    let further := cut - (slacks.map (firstPart cut total)).sum
    slacks.zipIdx.map fun e =>
      firstPart cut total e.1
        + (if rankAt remainders e.2 < further then 1 else 0)

/-- The entries of the new table: begun entries as they were, and each future entry, shortened by its
cut, from the end of the entry before it (R42). -/
def relay : Nat → List (EffEntry × Nat) → List EffEntry
  | _, [] => []
  | start, (e, cut) :: rest =>
    if e.begun then e :: relay e.ends rest
    else
      { e with start := start, length := e.length - cut }
        :: relay (start + (e.length - cut)) rest

/-- The new table of a plan for a delay applied and an early close (R40 to R42). -/
def compress (t : PlanTable) (delay early : Nat) : PlanTable :=
  let cut := delay + early
  let slacks := t.entries.map EffEntry.slack
  let entries :=
    relay ((t.entries.head?.map (·.start)).getD 0 + delay) (t.entries.zip (cuts cut slacks))
  { t with
    entries := entries
    effEnd :=
      if t.entries.all (·.begun) then t.effEnd
      else (entries.getLast?.map EffEntry.ends).getD t.effEnd
    delayTotal := satAdd 65535 t.delayTotal delay
    earlyTotal := satAdd 65535 t.earlyTotal early
    shortTotal := satAdd 65535 t.shortTotal (cut - slacks.sum) }

/-- Whether a delay keeps the effective end and every close minute that is not fixed within running
minute 2879 (R39). -/
def delayFits (t : PlanTable) (early delay : Nat) : Bool :=
  let new := compress t delay early
  let closeFits := fun session =>
    match t.session session with
    | some r =>
      r.fixedClose.isSome
        || (new.closeMinute session).all fun m => decide (m ≤ Config.lastRunningMinute)
    | none => true
  decide (t.effEnd + delay - min (delay + early) t.totalSlack ≤ Config.lastRunningMinute)
    && closeFits .am && closeFits .pm

/-- The largest delay at or below one given that fits (R39). -/
def largestDelay (t : PlanTable) (early : Nat) : Nat → Nat
  | 0 => 0
  | d + 1 => if delayFits t early (d + 1) then d + 1 else largestDelay t early d

/-- The delay applied to a plan (R39): 0 once any entry has begun. -/
def delayApplied (t : PlanTable) (delay early : Nat) : Nat :=
  if t.entries.any (·.begun) then 0 else largestDelay t early delay

/-- What a pass that starts from a table works out (R39 to R42). -/
def passResult (t : PlanTable) (delay early : Nat) : PassResult :=
  let d := delayApplied t delay early
  let cut := d + early
  let new := compress t d early
  let shortfall := cut - t.totalSlack
  { table := new
    figures :=
      { plan := t.plan, inUse := true, delayApplied := d, early := early, cut := cut,
        cutTotal := cut - shortfall, shortfall := shortfall, newEnd := new.effEnd,
        delayTotal := new.delayTotal, earlyTotal := new.earlyTotal,
        shortTotal := new.shortTotal }
    reduced := d != delay }

/-- The figures of a plan whose C is 0: nothing applied and its table as it stands (R38). -/
def unchangedFigures (t : PlanTable) : ShiftFigures :=
  { plan := t.plan, inUse := true, delayApplied := 0, early := 0, cut := 0, cutTotal := 0,
    shortfall := 0, newEnd := t.effEnd, delayTotal := t.delayTotal, earlyTotal := t.earlyTotal,
    shortTotal := t.shortTotal }

/-- The figures of a plan that is not in use today (R38). -/
def unusedFigures (plan : Nat) : ShiftFigures := ⟨plan, false, 0, 0, 0, 0, 0, 0, 0, 0, 0⟩

/-! ### SHIFT and the recompute -/

/-- Holds a request until the swap (R44). -/
def holdForSwap (p : PortId) (h : Holdable) (s : State) : State :=
  { s with timetable := { s.timetable with held := s.timetable.held ++ [⟨p, h⟩] } }

/-- Sets the recompute in flight. -/
def setRecompute (r : Option Recompute) (s : State) : State :=
  { s with timetable := { s.timetable with recompute := r } }

/-- The pass a plan of the set needs, if its C is not 0 (R38). -/
def passFor (s : State) (delay early plan : Nat) : Option Pass :=
  (tableOf s plan).bind fun t =>
    if delayApplied t delay early + early = 0 then none else some ⟨plan, t, none⟩

/-- The figures of a plan of the set that does not join the recompute (R38). -/
def settledFigures (s : State) (delay early plan : Nat) : Option ShiftFigures :=
  match tableOf s plan with
  | none => some (unusedFigures plan)
  | some t =>
    if delayApplied t delay early + early = 0 then some (unchangedFigures t) else none

/-- Whether a plan of the set that does not join had its delay reduced (R39). -/
def settledReduced (s : State) (delay early plan : Nat) : Bool :=
  (tableOf s plan).any fun t =>
    delayApplied t delay early + early == 0 && delayApplied t delay early != delay

/-- SHIFT taken in OPEN with no recompute in flight (R38). A reply sent at once gives the figures in
ascending plan order too (notes/assumptions/45). -/
def takeShift (p : PortId) (r : ShiftReq) (s : State) : State :=
  let delay := min r.delay 180
  let early := min r.early 180
  let settled := r.planSet.filterMap (settledFigures s delay early)
  let adjusted :=
    decide (180 < r.delay) || decide (180 < r.early)
      || r.planSet.any (settledReduced s delay early)
  match r.planSet.filterMap (passFor s delay early) with
  | [] => answer p .ok adjusted (.shifted settled) s
  | pass :: passes =>
    setRecompute (some ⟨p, delay, early, adjusted, settled, pass :: passes⟩) s

/-- SHIFT as the Timetable Engine takes it (R38): its content first, then the day state, then the
recompute in flight. -/
def serveShift (p : PortId) (r : ShiftReq) (s : State) : State :=
  if shiftOk r then
    gateOpen p (.shift r)
      (fun s =>
        if s.timetable.recompute.isSome then holdForSwap p (.shift r) s else takeShift p r s)
      s
  else refuse p .badField s

/-- SHIFT (R38). -/
def execShift (f : Frame) (r : ShiftReq) (s : State) : Host.Outcome State Fault Refusal :=
  request f .shift (serveShift f.port r) s

/-- A pass of a plan completes (R45). -/
def completePass (plan : Nat) (r : Recompute) : Recompute :=
  { r with
    passes := r.passes.map fun x =>
      if x.plan = plan ∧ x.result.isNone then
        { x with result := some (passResult x.base r.delay r.early) }
      else x }

/-- RECOMPUTE_PASS_COMPLETE (R45). -/
def execRecomputePassComplete (plan : Nat) (s : State) : Host.Outcome State Fault Refusal :=
  event (fun s => setRecompute (s.timetable.recompute.map (completePass plan)) s) s

/-- A new table with what the swap keeps from the committed one: begun flags, close-fixed and
close-raised flags, fixed close minutes and plan state (R46). -/
def keepCommitted (new old : PlanTable) : PlanTable :=
  { new with
    entries := (new.entries.zip old.entries).map fun e => { e.1 with begun := e.2.begun }
    state := old.state
    am := old.am
    pm := old.pm }

/-- The figures of the SHIFT's reply: those of the plans that did not join and of the last pass of each
plan that did (R46). R38 gives them for each plan of the set and in no order: they go in ascending plan
order, whatever order the request names the plans in (DESIGN CHOICE, unsafe, notes/assumptions/45). -/
def Recompute.allFigures (r : Recompute) : List ShiftFigures :=
  let joined := r.passes.filterMap fun x => x.result.map (·.figures)
  ((List.range 8).map (· + 1)).filterMap fun p =>
    (r.settled ++ joined).find? (·.plan == p)

/-- The adjusted flag of the SHIFT's reply (R38, R39). -/
def Recompute.anyAdjusted (r : Recompute) : Bool :=
  r.adjusted || r.passes.any fun x => x.result.any (·.reduced)

/-- One plan's new table replaces its committed table (R46). -/
def swapTable (s : State) (x : Pass) : State :=
  match x.result, tableOf s x.plan with
  | some y, some old => setTable (keepCommitted y.table old) s
  | _, _ => s

/-- The swap up to the requests held for it (R46): the tables, the SHIFT's reply, and what the new
tables raise late. -/
def swapTables (r : Recompute) (s : State) : State :=
  let s := setRecompute none (r.passes.foldl swapTable s)
  let s := answer r.port .ok r.anyAdjusted (.shifted r.allFigures) s
  match s.timetable.current with
  | some m => raiseDue true m (r.passes.map (·.plan)) s
  | none => s

/-- A closing ends a recompute in flight: its SHIFT and every request the Timetable Engine holds are
answered DAY_CLOSED, and no table changes (R47). -/
def abandonRecompute (s : State) : State :=
  let s :=
    match s.timetable.recompute with
    | some r => refuse r.port .dayClosed (setRecompute none s)
    | none => s
  let held := s.timetable.held
  let s := { s with timetable := { s.timetable with held := [] } }
  held.foldl (fun s h => refuse h.port .dayClosed s) s

/-! ### Reading the timetable -/

/-- A session record as READ-TIMETABLE reports it (R48). -/
def PlanTable.sessionReport (t : PlanTable) (session : Session) : Option SessionItemReport :=
  (t.session session).map fun r =>
    ⟨session, t.closeMinute session, r.fixedClose.isSome, r.raised⟩

/-- READ-TIMETABLE taken (R48). -/
def takeReadTimetable (p : PortId) (plan start : Nat) (s : State) : State :=
  if within 1 8 plan ∧ start ≤ 23 then
    match tableOf s plan with
    | none => refuse p .notFound s
    | some t =>
      let fixed : TimetableRead :=
        { plan := plan, state := t.state, effEnd := t.effEnd, delayTotal := t.delayTotal,
          earlyTotal := t.earlyTotal, shortTotal := t.shortTotal,
          sessions := (t.sessionReport .am).toList ++ (t.sessionReport .pm).toList,
          current := s.timetable.current }
      let items := indexed (fun i e => (⟨i, e⟩ : EffItem)) t.entries
      answerOk p
        (.timetable fixed (indexedPart (replyLimit s p) (Config.fixedOctets fixed) start items)) s
  else refuse p .badField s

/-- READ-TIMETABLE as the Timetable Engine takes it: by the day state, then held while a recompute is
in flight (R13, R44, R48). -/
def serveReadTimetable (p : PortId) (plan start : Nat) (s : State) : State :=
  gateOpen p (.readTimetable plan start)
    (fun s =>
      if s.timetable.recompute.isSome then holdForSwap p (.readTimetable plan start) s
      else takeReadTimetable p plan start s)
    s

/-- READ_TIMETABLE (R48). -/
def execReadTimetable (f : Frame) (plan start : Nat) (s : State) :
    Host.Outcome State Fault Refusal :=
  request f .readTimetable (serveReadTimetable f.port plan start) s

end Sys2Proof.Machine
end

