-- ==== Sys2Proof/Machine/Arrivals.lean ====
section
/-! DEFINITION. The Arrivals Unit: sign-in with its classification and slip, route holds and
sign-out (chapter 07). -/

namespace Sys2Proof.Machine

open Sys2Proof

/-! ### Measuring a sign-in -/

/-- A sign-in's running second (R101); none for a stamp of a day number that is neither the register
day nor the one after it, which lies beyond every end in the table. -/
def runningSecond (s : State) (t : Stamp) : Option Nat :=
  s.day.register.bind fun r =>
    if t.day = r then some t.time else if t.day = r + 1 then some (86400 + t.time) else none

/-- The minutes late of a late target, before they are kept within 1 to 255 (R103). -/
def rawMinutes (t threshold : Nat) : Nat := ceilDiv (t - threshold) 60

/-- The minutes late, kept within 1 to 255 (R103). -/
def clampMinutes (minutes : Nat) : Nat := max 1 (min 255 minutes)

/-- What a classified sign-in is (R101 to R104). `clamped` says that its minutes were held at 255. -/
inductive Classified where
  | notScheduled
  | afterHours
  | present
  | late (session : Session) (arrival : ArrivalClass) (figures : LateFigures)
      (excuse : Option Excuse) (clamped : Bool)
deriving DecidableEq, Repr

/-- The excuse of a late target (R104): a parent's notice before a held route. -/
def excuseOf (s : State) (slot : Nat) (pupil : Pupil) (session : Session) : Option Excuse :=
  if ((recordAt s slot).session session).noticeIs .lateExpected then some .notice
  else if pupil.route = 0 then none
  else (holdAt s pupil.route).map fun h => .route pupil.route h.expiry

/-- A late target, measured against its threshold and its close (R102 to R104). -/
def classifyLate (s : State) (slot : Nat) (pupil : Pupil) (table : PlanTable) (session : Session)
    (start t : Nat) : Classified :=
  let close := (table.closeMinute session).getD start
  let minutes := rawMinutes t (60 * start)
  let excuse := excuseOf s slot pupil session
  let arrival :=
    if excuse.isSome then ArrivalClass.excusedLate
    else if t < 60 * close then .late
    else .lateClosed
  .late session arrival ⟨start, close, clampMinutes minutes⟩ excuse (decide (255 < minutes))

/-- Whether a plan for today has sessions (R101). -/
def PlanToday.scheduled (t : PlanToday) : Bool := !t.sessions.isEmpty

/-- Classifies a sign-in (R101 to R104) against the committed table of the pupil's plan. -/
def classify (s : State) (slot : Nat) (pupil : Pupil) (stamp : Stamp) : Classified :=
  match (planTodayOf s pupil.cohort).filter (·.scheduled) with
  | none => .notScheduled
  | some today =>
    match tableOf s today.plan with
    | none => .notScheduled
    | some table =>
      match runningSecond s stamp, table.registration .am with
      | none, _ => .afterHours
      | some _, none => .notScheduled
      | some t, some am =>
        if 60 * table.effEnd ≤ t then .afterHours
        else if t < 60 * am.start then .present
        else
          match table.registration .pm with
          | some pm =>
            if 60 * pm.start ≤ t then classifyLate s slot pupil table .pm pm.start t
            else classifyLate s slot pupil table .am am.start t
          | none => classifyLate s slot pupil table .am am.start t

/-! ### The slip -/

/-- A slip with no session (R107): for RETURN, AFTER_HOURS and NOT_SCHEDULED. -/
def plainSlip (s : State) (slot : Nat) (pupil : Pupil) (arrival : ArrivalClass) (stamp : Stamp)
    (confirmed : Bool) : Slip :=
  { slot := slot, ref := pupil.ref, cohort := pupil.cohort, tutor := pupil.tutor,
    arrival := arrival, target := none, stamp := stamp, confirmed := confirmed, late := none,
    excuse := none, outcome := none, accrual := false, withheld := false,
    am := markOf s slot .am, pm := markOf s slot .pm }

/-- The earlier slip of a duplicate (R107). -/
def earlierSlip (s : State) (slot : Nat) (pupil : Pupil) (stamp : Stamp) : EarlierSlip :=
  let r := recordAt s slot
  { slot := slot, ref := pupil.ref, cohort := pupil.cohort, tutor := pupil.tutor, stamp := stamp,
    confirmed := r.confirmed, minutesLate := r.minutesLate, am := r.am.mark, pm := r.pm.mark }

/-- A sign-in with no proposal: reported and answered (R100, R101, R107). -/
def plainSignIn (p : PortId) (slot : Nat) (pupil : Pupil) (arrival : ArrivalClass) (status : Status)
    (stamp : Stamp) (confirmed : Bool) (s : State) : State :=
  let s := (takeSignIn ⟨slot, stamp, confirmed, none, none⟩ s).1
  answer p status false (.slip (plainSlip s slot pupil arrival stamp confirmed)) s

/-- The slip status of a decision (R107). -/
def slipStatus : Option Decision → Status
  | some .held | some .conflict => .held
  | some .notScheduled => .notScheduled
  | some .applied | some .repeated | none => .ok

/-- Whether a decision asks for a lateness accrual (R106): the proposal was applied and the mark
applied is LATE or LATE_CLOSED. -/
def accrues (decision : Option Decision) (mark : Mark) : Bool :=
  decide (decision = some .applied) && decide (mark = .late ∨ mark = .lateClosed)

/-- Asks the Term Accumulators for a lateness accrual (R106). -/
def askLateness (a : LatenessAsk) (s : State) : State :=
  { s with wires := { s.wires with lateness := s.wires.lateness ++ [a] } }

/-- The mark a class proposes (R105). -/
def ArrivalClass.mark : ArrivalClass → Mark
  | .late => .late
  | .lateClosed => .lateClosed
  | .excusedLate => .excusedLate
  | .present | .returned | .afterHours | .notScheduled => .present

/-- A sign-in with a proposal (R105 to R107): decided by the Day Register, accrued when its applied
mark is LATE or LATE_CLOSED, and answered with a slip. An outcome of not scheduled is answered as
if the plan had no sessions, but the adjusted flag stays as the classification left it: set when the
minutes were held at 255 (R103), though the slip then carries no minutes (DEDUCED and DESIGN CHOICE,
unsafe, notes/assumptions/32). -/
def proposedSignIn (p : PortId) (slot : Nat) (pupil : Pupil) (session : Session)
    (arrival : ArrivalClass) (late : Option LateFigures) (excuse : Option Excuse) (clamped : Bool)
    (stamp : Stamp) (confirmed : Bool) (s : State) : State :=
  let proposal : Proposal :=
    ⟨slot, session, arrival.mark, .signin, stamp, none, decide (excuse = some .notice)⟩
  let minutes := late.map (·.minutes)
  let taken := takeSignIn ⟨slot, stamp, confirmed, minutes, some proposal⟩ s
  let s := taken.1
  let decision := taken.2
  let accrual := accrues decision (markOf s slot session)
  let s :=
    if accrual then askLateness ⟨slot, pupil.ref, confirmed, minutes.getD 0⟩ s else s
  let plain := plainSlip s slot pupil .notScheduled stamp confirmed
  let slip : Slip :=
    if decision = some .notScheduled then { plain with outcome := decision }
    else
      { plain with
        arrival := arrival, target := some session, late := late, excuse := excuse,
        outcome := decision, accrual := accrual, withheld := accrual && !confirmed }
  answer p (slipStatus decision) clamped (.slip slip) s

/-- The Arrivals Unit takes a sign-in of an identified pupil (R100 to R107). -/
def takeArrival (p : PortId) (slot : Nat) (pupil : Pupil) (confirmed : Bool) (s : State) : State :=
  let stamp := now s
  let r := recordAt s slot
  match r.presence, r.signIn, r.returning with
  | .onSite, some earlier, _ =>
    answer p .duplicate false (.earlierSlip (earlierSlip s slot pupil earlier)) s
  | .offSite, _, true => plainSignIn p slot pupil .returned .ok stamp confirmed s
  | _, _, _ =>
    match classify s slot pupil stamp with
    | .notScheduled => plainSignIn p slot pupil .notScheduled .notScheduled stamp confirmed s
    | .afterHours => plainSignIn p slot pupil .afterHours .ok stamp confirmed s
    | .present =>
      proposedSignIn p slot pupil .am .present none none false stamp confirmed s
    | .late session arrival figures excuse clamped =>
      proposedSignIn p slot pupil session arrival (some figures) excuse clamped stamp confirmed s

/-! ### SIGN-IN -/

/-- The fault a failed card match reports (R74): a mismatch carries the derived slot when the table
has it, and the card otherwise. -/
def cardFault (p : PortId) (card : Nat) (stamp : Stamp) : CardMatch → Option FaultRecord
  | .matched _ _ _ => none
  | .unknown => some ⟨.unknownCard, some p, some (.card card), stamp⟩
  | .mismatch _ slot =>
    some
      ⟨.cardMismatch, some p,
        some (if slot < Config.slots then .slot slot else .card card), stamp⟩

/-- A retry report is passed to the Link Interface (R99); it goes before the fault of a failed match
(notes/assumptions/31). -/
def reportRetry (p : PortId) (card : Nat) (retry : Bool) (s : State) : State :=
  if retry then reportFault ⟨.cardRetry, some p, some (.card card), now s⟩ s else s

/-- A card that is not matched: the kiosk is answered NOT_FOUND, and the fault is reported after that
(R74). -/
def refuseCard (p : PortId) (card : Nat) (m : CardMatch) (s : State) : State :=
  let t := refuse p .notFound s
  match cardFault p card (now s) m with
  | some r => reportFault r t
  | none => t

/-- SIGN-IN by card taken in OPEN (R99, R74). The retry report is taken before whatever else the sign-in
reports: before the fault of a card that is not matched, and before the TRAIL_OVERRUN of a matched card's
mark on a full amendment list (R93). R169 lets either come first (DESIGN CHOICE, unsafe,
notes/assumptions/31). -/
def takeCard (p : PortId) (card : Nat) (retry : Bool) (s : State) : State :=
  if within 1 16777215 card then
    let s := reportRetry p card retry s
    match cardMatch s card with
    | .matched slot _ pupil => takeArrival p slot pupil true s
    | .unknown => refuseCard p card .unknown s
    | .mismatch w slot => refuseCard p card (.mismatch w slot) s
  else refuse p .badField s

/-- SIGN-IN taken in OPEN (R99). The form follows the role of the port; a form of the other role is
answered BAD_FIELD (notes/assumptions/25). -/
def takeSignInRequest (p : PortId) (r : SignInReq) (s : State) : State :=
  match r, (s.port p).role with
  | .byCard card retry, .kiosk => takeCard p card retry s
  | .byReference ref, .desk =>
    match lookup s ref with
    | some (slot, pupil) => takeArrival p slot pupil false s
    | none => refuse p .notFound s
  | .byCard _ _, _ => refuse p .badField s
  | .byReference _, _ => refuse p .badField s

/-- SIGN-IN by the day state (R13, R99). -/
def serveSignIn (p : PortId) (r : SignInReq) (s : State) : State :=
  gateOpen p (.signIn r) (takeSignInRequest p r) s

/-- SIGN_IN (R99). -/
def execSignIn (f : Frame) (r : SignInReq) (s : State) : Host.Outcome State Fault Refusal :=
  request f .signIn (serveSignIn f.port r) s

/-! ### SIGN-OUT -/

/-- The authorise set (R113): the sessions of the pupil's plan for today whose mark is not NONE and
whose registration entry has not begun in the committed table. -/
def authoriseSet (s : State) (slot : Nat) (pupil : Pupil) : List Session :=
  match planTodayOf s pupil.cohort with
  | none => []
  | some today =>
    today.sessions.list.filter fun session =>
      decide (markOf s slot session ≠ .none)
        && !(tableOf s today.plan).any (·.sessionBegun session)

/-- SIGN-OUT taken in OPEN (R113, R114). -/
def takeSignOutRequest (p : PortId) (ref : PupilRef) (reason : SignOutReason) (returning : Bool)
    (s : State) : State :=
  match lookup s ref with
  | none => refuse p .notFound s
  | some (slot, pupil) =>
    let stamp := now s
    let set := if returning then [] else authoriseSet s slot pupil
    let taken := takeSignOut slot stamp returning set s
    answerOk p
      (.signedOut
        { slot := slot, ref := pupil.ref, reason := reason, returning := returning, stamp := stamp,
          presence := (recordAt taken.1 slot).presence, outcomes := taken.2 })
      taken.1

/-- SIGN-OUT (R113): its reason first, then the day state. -/
def serveSignOut (p : PortId) (r : SignOutReq) (s : State) : State :=
  match r.reason with
  | some reason =>
    gateOpen p (.signOut r) (takeSignOutRequest p r.ref reason r.returning) s
  | none => refuse p .badField s

/-- SIGN_OUT (R113). -/
def execSignOut (f : Frame) (r : SignOutReq) (s : State) : Host.Outcome State Fault Refusal :=
  request f .signOut (serveSignOut f.port r) s

/-! ### Route holds -/

/-- The longest a route may be held from its declaration, in seconds (R111). -/
def holdCap : Nat := 7200

/-- The record a ROUTE-HOLD taken at a stamp leaves, with whether the cap brought its expiry earlier
(R110, R111). -/
def heldUntil (old : Option RouteHold) (stamp : Stamp) (minutes : Nat) : RouteHold × Bool :=
  let asked := stamp.plus (minutes * 60)
  match old with
  | none => (⟨stamp, asked⟩, false)
  | some h =>
    let cap := h.declared.plus holdCap
    if 0 < stampDiff asked cap then (⟨h.declared, cap⟩, true) else (⟨h.declared, asked⟩, false)

/-- The total held minutes (R109). -/
def RouteHold.totalMinutes (h : RouteHold) : Nat := ceilDiv (secondsBetween h.declared h.expiry) 60

/-- The number of ENROLLED pupils on a route (R110). -/
def riders (s : State) (route : Nat) : Nat := (enrolled s).countP fun e => e.2.route == route

/-- Sets or clears a route in the routes whose hold ends no sooner than the next second event
(R111). -/
def setWait (route : Nat) (waits : Bool) (s : State) : State :=
  { s with arrivals :=
      { s.arrivals with
        waits :=
          if waits then s.arrivals.waits ||| only 32 route
          else s.arrivals.waits &&& ~~~(only 32 route) } }

/-- ROUTE-HOLD taken in OPEN (R110, R111). -/
def takeRouteHold (p : PortId) (r : RouteHoldReq) (s : State) : State :=
  let minutes := min r.minutes 90
  let held := heldUntil (holdAt s r.route) (now s) minutes
  let h := held.1
  let s := setWait r.route (decide (stampDiff h.expiry (now s) ≤ 0)) (setHold r.route (some h) s)
  answer p .ok (decide (90 < r.minutes) || held.2)
    (.routeHeld ⟨r.route, h, h.totalMinutes, riders s r.route⟩) s

/-- ROUTE-HOLD (R110): its content first, then the day state. -/
def serveRouteHold (p : PortId) (r : RouteHoldReq) (s : State) : State :=
  if routeHoldOk r then gateOpen p (.routeHold r) (takeRouteHold p r) s else refuse p .badField s

/-- ROUTE_HOLD (R110). -/
def execRouteHold (f : Frame) (r : RouteHoldReq) (s : State) : Host.Outcome State Fault Refusal :=
  request f .routeHold (serveRouteHold f.port r) s

/-- An active route's hold whose expiry the last second event reached ends, and its route joins the
route sweep item (R112, R116). -/
def expireHold (s : State) (route : Nat) : State :=
  match holdAt s route with
  | none => s
  | some h =>
    if s.day.state = .open ∧ s.arrivals.waits.getLsbD route = false
        ∧ reached (now s) h.expiry = true then
      (setHold route none s).onRegister (joinRoute route (now s))
    else s

/-- Every hold expiry the last second event reached is taken (notes/assumptions/7). -/
def expireHolds (s : State) : State := (s.arrivals.holds.map (·.1)).foldl expireHold s

/-- ROUTE_HOLD_EXPIRY (R112). -/
def execRouteHoldExpiry (route : Nat) (s : State) : Host.Outcome State Fault Refusal :=
  event (fun s => expireHold s route) s

end Sys2Proof.Machine
end

