-- ==== Sys2Proof/Machine/Accumulators.lean ====
section
/-! DEFINITION. The Term Accumulators: accruals, the fold with its concern check, and the reads and
the reset of the totals (chapter 10). -/

namespace Sys2Proof.Machine

open Sys2Proof

/-! ### Accruals -/

/-- A lateness accrual is taken (R146, R147). -/
def takeLateness (a : LatenessAsk) (s : State) : State :=
  if holdsRef s a.slot a.ref then
    setTotals a.slot ((totalsAt s a.slot).addLateness a.confirmed a.minutes) s
  else s

/-- An open-minutes accrual is taken (R146, R148). -/
def takeOpenMinutes (slot : Nat) (ref : PupilRef) (minutes : Nat) (s : State) : State :=
  if holdsRef s slot ref then setTotals slot ((totalsAt s slot).addOpenMinutes minutes) s else s

/-- Whether a fold carries the unexplained sessions to the concern threshold (R150). -/
def crosses (threshold before after : Nat) : Bool :=
  decide (0 < threshold) && decide (before < threshold) && decide (threshold ≤ after)

/-- Asks the Message Unit to add a pupil with reason CONCERN (R150). -/
def askConcern (slot : Nat) (ref : PupilRef) (s : State) : State :=
  { s with wires := { s.wires with concern := s.wires.concern ++ [⟨slot, ref⟩] } }

/-- An accumulator record after the fold of a register day (R149). -/
def Accumulator.folded (r : Accumulator) (day : DayNumber) (am pm : Mark) : Accumulator :=
  { (r.foldMark am).foldMark pm with lastFold := some day }

/-- A fold is taken (R149, R150): once for each register day, with the concern check at its end. -/
def takeFold (slot : Nat) (ref : PupilRef) (day : DayNumber) (am pm : Mark) (s : State) : State :=
  if holdsRef s slot ref then
    let r := totalsAt s slot
    if r.lastFold = some day then s
    else
      let new := r.folded day am pm
      let s := setTotals slot new s
      if crosses s.store.settings.concern r.unexplained new.unexplained then askConcern slot ref s
      else s
  else s

/-- LATENESS_ACCRUAL (R147): the first lateness accrual the Arrivals Unit has asked for. -/
def execLatenessAccrual (s : State) : Host.Outcome State Fault Refusal :=
  event
    (fun s =>
      match s.wires.lateness with
      | a :: rest => takeLateness a { s with wires := { s.wires with lateness := rest } }
      | [] => s)
    s

/-- The state with the Day Register's first request of the Term Accumulators taken off its list. -/
def popAccrual (rest : List ToAccumulators) (s : State) : State :=
  { s with wires := { s.wires with toAccumulators := rest } }

/-- OPEN_MINUTES_ACCRUAL (R148): the Day Register's first request, when it is an open-minutes
accrual. -/
def execOpenMinutesAccrual (s : State) : Host.Outcome State Fault Refusal :=
  event
    (fun s =>
      match s.wires.toAccumulators with
      | .openMinutes slot ref minutes :: rest => takeOpenMinutes slot ref minutes (popAccrual rest s)
      | _ => s)
    s

/-- FOLD (R149): the Day Register's first request, when it is a fold. -/
def execFold (s : State) : Host.Outcome State Fault Refusal :=
  event
    (fun s =>
      match s.wires.toAccumulators with
      | .fold slot ref day am pm :: rest => takeFold slot ref day am pm (popAccrual rest s)
      | _ => s)
    s

/-! ### Reading the totals -/

/-- What every READ-TOTALS reply carries (R152). -/
def totalsHead (s : State) : TotalsHead :=
  ⟨s.totals.termDays, s.store.settings.concern, foldInProgress s⟩

/-- A slot as READ-TOTALS returns it (R152). -/
def totalsView (s : State) (slot : Nat) : TotalsView :=
  ⟨slot, (refAt s slot).map fun ref => (ref, totalsAt s slot)⟩

/-- Whether a returned record has a nonempty limit set (R152). -/
def TotalsView.limited (v : TotalsView) : Bool := v.enrolled.any fun e => e.2.limits.any

/-- One slot's READ-TOTALS reply (R152). -/
def answerTotals (p : PortId) (slot : Nat) (s : State) : State :=
  let view := totalsView s slot
  answer p .ok view.limited (.totals (totalsHead s) view) s

/-- READ-TOTALS LIST (R152). -/
def answerTotalsList (p : PortId) (start : Nat) (least : Option Nat) (s : State) : State :=
  let slots := ((enrolled s).map (·.1)).filter fun k =>
    decide (start ≤ k) && least.all fun n => decide (n ≤ (totalsAt s k).unexplained)
  let head := totalsHead s
  let part :=
    slotPart (replyLimit s p) (Config.fixedOctets head) (·.slot) (slots.map (totalsView s))
  answer p .ok (part.items.any (·.limited)) (.totalsList head part) s

/-- A READ-TOTALS that is refused: its reply too carries what every reply of R152 carries (R164). -/
def refuseTotals (p : PortId) (status : Status) (s : State) : State :=
  answer p status false (.totalsRefused (totalsHead s)) s

/-- READ-TOTALS's effect (R152). -/
def serveReadTotals (p : PortId) (selector : TotalsSelector) (s : State) : State :=
  match selector with
  | .slot slot => if slot < Config.slots then answerTotals p slot s else refuseTotals p .badField s
  | .reference ref =>
    match lookup s ref with
    | some (slot, _) => answerTotals p slot s
    | none => refuseTotals p .notFound s
  | .list start least =>
    if start < Config.slots ∧ (least.all fun n => decide (n ≤ 255)) = true then
      answerTotalsList p start least s
    else refuseTotals p .badField s
  | .unknown => refuseTotals p .badField s

/-- READ_TOTALS (R152). -/
def execReadTotals (f : Frame) (selector : TotalsSelector) (s : State) :
    Host.Outcome State Fault Refusal :=
  request f .readTotals (serveReadTotals f.port selector) s

/-- TERM-RESET's effect (R153). -/
def serveTermReset (p : PortId) (s : State) : State :=
  match s.day.state with
  | .closed => answerOk p (.termDays s.totals.termDays) { s with totals := ⟨[], 0⟩ }
  | .opening | .open | .closing => refuse p .busy s

/-- TERM_RESET (R153). -/
def execTermReset (f : Frame) (s : State) : Host.Outcome State Fault Refusal :=
  request f .termReset (serveTermReset f.port) s

end Sys2Proof.Machine
end

