-- ==== Sys2Proof/Machine/Messages.lean ====
section
/-! DEFINITION. The Message Unit: the standing notice list, notices, the outbound queue with its
hand-overs and results, the call list, and what the ends of the day do to them (chapter 09). -/

namespace Sys2Proof.Machine

open Sys2Proof

/-- Changes the Message Unit alone. -/
def State.onMessages (s : State) (f : MessageUnit → MessageUnit) : State :=
  { s with messages := f s.messages }

/-! ### Alert states -/

/-- A slot's alert state as the Message Unit last reported it: the last report in flight, or what
the register record holds. -/
def alertNow (s : State) (slot : Nat) : AlertState :=
  match (s.wires.reports.filter (·.slot == slot)).getLast? with
  | some r => r.alert
  | none => (recordAt s slot).alert

/-- Reports a slot's alert state to the Day Register, unless it leaves it at the value it already had
(R132). -/
def reportAlert (slot : Nat) (alert : AlertState) (s : State) : State :=
  match refAt s slot with
  | none => s
  | some ref =>
    if alertNow s slot = alert then s
    else { s with wires := { s.wires with reports := s.wires.reports ++ [⟨slot, ref, alert⟩] } }

/-! ### The call list -/

/-- The reasons a pupil is added to the call list for (R140). -/
inductive CallReason where
  | noContact | exhausted | queueFull | noticeUnverified | noticeConflict | concern
deriving DecidableEq, Repr

/-- The empty reason set. -/
def CallReasons.none : CallReasons := ⟨false, false, false, false, false, false⟩

/-- A reason set with a reason added. -/
def CallReasons.add (r : CallReasons) : CallReason → CallReasons
  | .noContact => { r with noContact := true }
  | .exhausted => { r with exhausted := true }
  | .queueFull => { r with queueFull := true }
  | .noticeUnverified => { r with noticeUnverified := true }
  | .noticeConflict => { r with noticeConflict := true }
  | .concern => { r with concern := true }

/-- A slot's call list entry. -/
def callOf (s : State) (slot : Nat) : Option CallEntry := s.messages.calls.find? (·.slot == slot)

/-- Whether an addition for a slot finds room (R140). -/
def callRoom (s : State) (slot : Nat) : Bool :=
  (callOf s slot).isSome || decide (s.messages.calls.length < Config.callPlaces)

/-- An entry with a reason added, and its held notice replaced when the addition carries one
(R140). -/
def CallEntry.add (e : CallEntry) (reason : CallReason) (notice : Option HeldNotice) : CallEntry :=
  { e with
    reasons := e.reasons.add reason
    notice := match notice with | some n => some n | none => e.notice }

/-- Adds a pupil to the call list with a reason (R140): an addition whose slot no longer holds its
pupil is discarded, and one that finds no room is refused with a CALL_LIST_FULL fault. -/
def addCall (slot : Nat) (ref : PupilRef) (reason : CallReason) (notice : Option HeldNotice)
    (s : State) : State :=
  if holdsRef s slot ref then
    match callOf s slot with
    | some _ =>
      s.onMessages fun m =>
        { m with calls := m.calls.map fun e => if e.slot = slot then e.add reason notice else e }
    | none =>
      if s.messages.calls.length < Config.callPlaces then
        let entry : CallEntry := ⟨slot, CallReasons.none.add reason, now s, notice⟩
        s.onMessages fun m => { m with calls := m.calls ++ [entry] }
      else reportFault ⟨.callListFull, none, some (.slot slot), now s⟩ s
  else s

/-- Adds the pupil a slot holds to the call list. -/
def addCallFor (slot : Nat) (reason : CallReason) (s : State) : State :=
  match refAt s slot with
  | some ref => addCall slot ref reason none s
  | none => s

/-- Removes a slot's call list entry, with any held notice. -/
def dropCall (slot : Nat) (s : State) : State :=
  s.onMessages fun m => { m with calls := m.calls.filter (·.slot != slot) }

/-! ### The outbound queue -/

/-- A slot's outbound entry (R131). -/
def outboundOf (s : State) (slot : Nat) : Option Outbound :=
  s.messages.outbound.find? (·.slot == slot)

/-- Replaces a slot's outbound entry. -/
def setOutbound (e : Outbound) (s : State) : State :=
  s.onMessages fun m =>
    { m with outbound := m.outbound.map fun x => if x.slot = e.slot then e else x }

/-- Removes a slot's outbound entry. -/
def dropOutbound (slot : Nat) (s : State) : State :=
  s.onMessages fun m => { m with outbound := m.outbound.filter (·.slot != slot) }

/-- The next place within a queued time (R131). -/
def nextPlace (s : State) (t : Stamp) : Nat :=
  (s.messages.outbound.filter (·.queuedTime == t)).foldl (fun n e => max n (e.place + 1)) 0

/-- An entry placed at the back of its class, QUEUED (R131). -/
def Outbound.atBack (e : Outbound) (s : State) : Outbound :=
  { e with handed := none, queuedTime := now s, place := nextPlace s (now s) }

/-- A new entry, QUEUED and placed at the back of its class (R133, R134). -/
def newOutbound (kind : OutboundKind) (slot : Nat) (session : Session) (arrival : Option Stamp)
    (s : State) : Outbound :=
  { kind := kind, slot := slot, sessions := .of session, followOn := ⟨false, false⟩,
    recalled := false, contactIndex := 0, attempts := 0, queuedTime := now s,
    place := nextPlace s (now s), handed := none, arrival := arrival }

/-- The queue is full: the pupil is added to the call list and a QUEUE_FULL fault is reported
(R133, R134). With the call list full too, R169 lets the two faults be taken in either order:
CALL_LIST_FULL goes first (DESIGN CHOICE, unsafe, notes/assumptions/37). -/
def queueFull (slot : Nat) (s : State) : State :=
  reportFault ⟨.queueFull, none, some (.slot slot), now s⟩ (addCallFor slot .queueFull s)

/-- An entry joins the queue. -/
def joinOutbound (e : Outbound) (s : State) : State :=
  s.onMessages fun m => { m with outbound := m.outbound ++ [e] }

/-- The service order of the QUEUED entries (R131). -/
def Outbound.before (a b : Outbound) : Bool :=
  match a.kind, b.kind with
  | .correction, .alert => true
  | .alert, .correction => false
  | .alert, .alert | .correction, .correction =>
    decide (0 < stampDiff b.queuedTime a.queuedTime)
      || (decide (stampDiff b.queuedTime a.queuedTime = 0) && decide (a.place < b.place))

/-- The QUEUED entry at the head of service (R131). -/
def headOfService (s : State) : Option Outbound :=
  firstBy Outbound.before (s.messages.outbound.filter (·.handed.isNone))

/-- The HANDED entry that holds a tag (R136). -/
def handedWith (s : State) (tag : Nat) : Option Outbound :=
  s.messages.outbound.find? fun e => e.handed.any (·.tag == tag)

/-! ### Raise and leave -/

/-- What a raise does to a slot's entry (R133). -/
def raiseOn (e : Outbound) (session : Session) : Outbound :=
  match e.kind, e.handed with
  | .alert, none => { e with sessions := e.sessions.put session true }
  | .correction, none => { e with followOn := e.followOn.put session true }
  | .alert, some _ =>
    if e.recalled && e.sessions.has session then { e with recalled := false }
    else { e with followOn := e.followOn.put session true }
  | .correction, some _ => { e with followOn := e.followOn.put session true }

/-- The Message Unit takes a raise (R131, R133). -/
def takeRaise (slot : Nat) (ref : PupilRef) (session : Session) (s : State) : State :=
  if holdsRef s slot ref then
    match outboundOf s slot with
    | some e => setOutbound (raiseOn e session) s
    | none =>
      if s.messages.outbound.length < Config.outboundPlaces then
        reportAlert slot .queued (joinOutbound (newOutbound .alert slot session none s) s)
      else reportAlert slot .unsent (queueFull slot s)
  else s

/-- Whether a new mark leaves a correction owed (R134). -/
def owesCorrection : Mark → Bool
  | .late | .lateClosed | .excusedLate | .present => true
  | .none | .blank | .notSeen | .notified | .authorised | .offsite | .unexplained => false

/-- What a leave does to a slot's entry that stays in the queue (R134): the session is taken out of
the follow-on set, and a HANDED alert none of whose sessions is still UNEXPLAINED is recalled. No row
of R134 is for a leave taken when its session is UNEXPLAINED again, its raise still in flight: recall
then stays as it was, and the raise goes into the follow-on set (DESIGN CHOICE, unsafe,
notes/assumptions/23). Nor is any row for a leave whose session the entry holds neither in the session set
of an alert nor in the follow-on set, such as PM leaving while a CORRECTION for AM alone is QUEUED: the
entry then stays as it was (DESIGN CHOICE, unsafe, notes/assumptions/23). -/
def leaveOn (s : State) (e : Outbound) (session : Session) : Outbound :=
  let e := { e with followOn := e.followOn.put session false }
  match e.kind, e.handed with
  | .alert, some _ =>
    if e.sessions.has session && (stillUnexplained s e.slot e.sessions).isEmpty then
      { e with recalled := true }
    else e
  | _, _ => e

/-- The Message Unit takes a leave (R131, R134). -/
def takeLeave (slot : Nat) (ref : PupilRef) (session : Session) (mark : Mark) (s : State) : State :=
  if holdsRef s slot ref then
    match outboundOf s slot with
    | some e =>
      if e.kind = .alert ∧ e.handed = none ∧ e.sessions.has session then
        let left := e.sessions.put session false
        if left.isEmpty then reportAlert slot .withdrawn (dropOutbound slot s)
        else setOutbound { e with sessions := left } s
      else setOutbound (leaveOn s e session) s
    | none =>
      if (recordAt s slot).alert = .delivered ∧ owesCorrection mark then
        if s.messages.outbound.length < Config.outboundPlaces then
          reportAlert slot .queued
            (joinOutbound (newOutbound .correction slot session (recordAt s slot).signIn s) s)
        else queueFull slot s
      else s
  else s

/-- The Message Unit takes one message of the Day Register. -/
def takeToMessages (s : State) (m : ToMessages) : State :=
  match m with
  | .raise slot ref session => takeRaise slot ref session s
  | .leave slot ref session mark => takeLeave slot ref session mark s
  | .conflict slot ref => addCall slot ref .noticeConflict none s

/-- The Message Unit takes every message the Day Register has made, in order. -/
def drainMessages (s : State) : State :=
  s.wires.toMessages.foldl takeToMessages { s with wires := { s.wires with toMessages := [] } }

/-- The state with the first message of the Day Register to the Message Unit taken off its list. -/
def popMessage (rest : List ToMessages) (s : State) : State :=
  { s with wires := { s.wires with toMessages := rest } }

/-- RAISE_ALERT (R133): the first message the Day Register has made, when it is a raise. -/
def execRaiseAlert (s : State) : Host.Outcome State Fault Refusal :=
  event
    (fun s =>
      match s.wires.toMessages with
      | .raise slot ref session :: rest => takeRaise slot ref session (popMessage rest s)
      | _ => s)
    s

/-- LEAVE_UNEXPLAINED (R134): the first message the Day Register has made, when it is a leave. -/
def execLeaveUnexplained (s : State) : Host.Outcome State Fault Refusal :=
  event
    (fun s =>
      match s.wires.toMessages with
      | .leave slot ref session mark :: rest =>
        takeLeave slot ref session mark (popMessage rest s)
      | _ => s)
    s

/-- CALL_LIST_ADD (R140): the first addition the block has asked for, when it is its turn. -/
def execCallListAdd (caller : Caller) (s : State) : Host.Outcome State Fault Refusal :=
  event
    (fun s =>
      match caller with
      | .dayRegister =>
        match s.wires.toMessages with
        | .conflict slot ref :: rest => addCall slot ref .noticeConflict none (popMessage rest s)
        | _ => s
      | .termAccumulators =>
        match s.wires.concern with
        | a :: rest =>
          addCall a.slot a.ref .concern none { s with wires := { s.wires with concern := rest } }
        | [] => s)
    s

/-! ### Notices -/

/-- A slot's standing notice (R125). -/
def standingOf (s : State) (slot : Nat) : Option Standing :=
  s.messages.standing.find? (·.slot == slot)

/-- Removes a slot's standing notice. -/
def dropStanding (slot : Nat) (s : State) : State :=
  s.onMessages fun m => { m with standing := m.standing.filter (·.slot != slot) }

/-- Places an entry by its last day, after those of equal last day (R125). -/
def placeStanding (e : Standing) : List Standing → List Standing
  | [] => [e]
  | x :: rest => if e.lastDay < x.lastDay then e :: x :: rest else x :: placeStanding e rest

/-- Stores an entry, replacing any for its slot (R125). -/
def storeStanding (e : Standing) (s : State) : State :=
  (dropStanding e.slot s).onMessages fun m => { m with standing := placeStanding e m.standing }

/-- Whether a notice is due today (R127). -/
def HeldNotice.dueToday (n : HeldNotice) (s : State) : Bool :=
  decide (s.day.state = .open) && decide (n.firstDay ≤ today s) && decide (today s ≤ n.lastDay)

/-- Whether a notice needs storing (R127). -/
def HeldNotice.needsStoring (n : HeldNotice) (s : State) : Bool :=
  decide (s.day.state ≠ .open) || decide (today s < n.lastDay)

/-- Whether a notice that needs storing finds no room (R127). -/
def standingFull (s : State) (slot : Nat) : Bool :=
  decide (Config.standingPlaces ≤ s.messages.standing.length) && (standingOf s slot).isNone

/-- The NOTICE proposal of one session (R127, R129). -/
def noticeProposal (slot : Nat) (kind : NoticeKind) (reason : Nat) (stamp : Stamp)
    (session : Session) : Proposal :=
  ⟨slot, session, .notified, .notice, stamp, some ⟨kind, reason⟩, false⟩

/-- A verified notice is taken: applied when due today, then stored when it needs storing (R127);
the reply's fields say what was done. -/
def applyNotice (slot : Nat) (n : HeldNotice) (s : State) : State × NoticeReply :=
  let stamp := now s
  let due := n.dueToday s
  let store := n.needsStoring s
  let applied :=
    if due then proposeEach (noticeProposal slot n.kind n.reason stamp) n.sessions.list s
    else (s, [])
  let s := applied.1
  let replaced := store && (standingOf s slot).isSome
  let s :=
    if store then
      storeStanding
        ⟨slot, n.kind, n.reason, n.sessions, n.firstDay, n.lastDay, n.contact, stamp⟩ s
    else s
  (s, ⟨slot, false, store, replaced, applied.2⟩)

/-- A verified NOTICE (R127): refused whole when it needs storing and finds no room. -/
def takeVerified (p : PortId) (slot : Nat) (n : HeldNotice) (s : State) : State :=
  if n.needsStoring s && standingFull s slot then
    refuse p .full (reportFault ⟨.standingFull, some p, some (.slot slot), now s⟩ s)
  else
    let applied := applyNotice slot n s
    answerOk p (.noticed applied.2) applied.1

/-- An unverified NOTICE (R126): held on the call list, or discarded when the list cannot take the
addition. -/
def takeUnverified (p : PortId) (slot : Nat) (ref : PupilRef) (n : HeldNotice) (s : State) : State :=
  let room := callRoom s slot
  let s := addCall slot ref .noticeUnverified (some n) s
  if room then answerOk p (.noticed ⟨slot, true, false, false, []⟩) s else refuse p .full s

/-- NOTICE taken (R126). -/
def takeNotice (p : PortId) (r : NoticeReq) (s : State) : State :=
  if noticeOk r then
    if r.lastDay < today s then answer p .badField false (.check .past none) s
    else
      match lookup s r.ref with
      | none => refuse p .notFound s
      | some (slot, pupil) =>
        if pupil.contacts.any fun c => c.contact == r.contact.toNat then
          takeVerified p slot r.content s
        else takeUnverified p slot pupil.ref r.content s
  else refuse p .badField s

/-- NOTICE by the day state (R13, R126). -/
def serveNotice (p : PortId) (r : NoticeReq) (s : State) : State :=
  gateNotice p (.notice r) (takeNotice p r) s

/-- NOTICE (R126). -/
def execNotice (f : Frame) (r : NoticeReq) (s : State) : Host.Outcome State Fault Refusal :=
  request f .notice (serveNotice f.port r) s

/-- Removes NOTICE_UNVERIFIED and the held notice from a slot's entry; an entry whose reason set is
then empty leaves the list (R142). -/
def settleHeldNotice (slot : Nat) (s : State) : State :=
  s.onMessages fun m =>
    { m with
      calls := m.calls.filterMap fun e =>
        if e.slot = slot then
          let reasons := { e.reasons with noticeUnverified := false }
          if reasons = .none then none else some { e with reasons := reasons, notice := none }
        else some e }

/-- CONFIRM-NOTICE taken (R142). When the conflict goes first, this step takes all that the Day Register
has sent the Message Unit, the messages made after the conflict among them (the other session's leave), so
no TAKE-MESSAGE and no other command comes between those and the removal (DESIGN CHOICE, unsafe,
notes/assumptions/14). R142 gives the reply to a notice discarded as expired the outcome EXPIRED and names
nothing beside it: here that reply carries the slot too, as the reply to a notice taken does (DESIGN
CHOICE, unsafe, notes/assumptions/49). -/
def takeConfirmNotice (p : PortId) (slot : Nat) (conflictFirst : Bool) (s : State) : State :=
  if slot < Config.slots then
    match (callOf s slot).bind (·.notice) with
    | none => refuse p .notFound s
    | some n =>
      if n.lastDay < today s then answerOk p (.noticeExpired slot) (settleHeldNotice slot s)
      else if n.needsStoring s && standingFull s slot then
        refuse p .full (reportFault ⟨.standingFull, some p, some (.slot slot), now s⟩ s)
      else
        let applied := applyNotice slot n s
        let s := if conflictFirst then drainMessages applied.1 else applied.1
        answerOk p (.noticed applied.2) (settleHeldNotice slot s)
  else refuse p .badField s

/-- CONFIRM-NOTICE by the day state (R13, R142). -/
def serveConfirmNotice (p : PortId) (slot : Nat) (conflictFirst : Bool) (s : State) : State :=
  gateNotice p (.confirmNotice slot conflictFirst) (takeConfirmNotice p slot conflictFirst) s

/-- CONFIRM_NOTICE (R142). -/
def execConfirmNotice (f : Frame) (slot : Nat) (conflictFirst : Bool) (s : State) :
    Host.Outcome State Fault Refusal :=
  request f .confirmNotice (serveConfirmNotice f.port slot conflictFirst) s

/-- What the Message Unit does at a slot the open walk visits (R129): an expired standing notice is
removed, and one that covers today is applied. -/
def visitStanding (slot : Nat) (s : State) : State :=
  match standingOf s slot with
  | none => s
  | some e =>
    if e.lastDay < today s then dropStanding slot s
    else if e.firstDay ≤ today s then
      (proposeEach (noticeProposal slot e.kind e.reason (now s)) e.sessions.list s).1
    else s

/-- READ-STANDING's effect (R130). -/
def serveReadStanding (p : PortId) (start : Nat) (s : State) : State :=
  if start < Config.standingPlaces then
    let entries := s.messages.standing
    let items := indexed (fun i e => (⟨i, e, refAt s e.slot⟩ : StandingItem)) entries
    answerOk p
      (.standing entries.length
        (indexedPart (replyLimit s p) (Config.fixedOctets (Kind.readStanding, entries.length)) start
          items)) s
  else refuse p .badField s

/-- READ_STANDING (R130). -/
def execReadStanding (f : Frame) (start : Nat) (s : State) : Host.Outcome State Fault Refusal :=
  request f .readStanding (serveReadStanding f.port start) s

/-- CANCEL-STANDING's effect (R130). -/
def serveCancelStanding (p : PortId) (ref : PupilRef) (s : State) : State :=
  match (lookup s ref).bind fun e => standingOf s e.1 with
  | some e => answerOk p (.standingCancelled e) (dropStanding e.slot s)
  | none => refuse p .notFound s

/-- CANCEL_STANDING (R130). -/
def execCancelStanding (f : Frame) (ref : PupilRef) (s : State) :
    Host.Outcome State Fault Refusal :=
  request f .cancelStanding (serveCancelStanding f.port ref) s

/-! ### Hand-over -/

/-- The tag counter's next value: 65535 goes to 1 (R136). -/
def nextTag (tag : Nat) : Nat := if tag < 65535 then tag + 1 else 1

/-- The first value from the counter on that no HANDED entry holds (R136). -/
def freeTag (s : State) : Nat → Nat → Nat
  | 0, tag => tag
  | fuel + 1, tag => if (handedWith s tag).isSome then freeTag s fuel (nextTag tag) else tag

/-- How many entries are HANDED. -/
def handedCount (s : State) : Nat := s.messages.outbound.countP (·.handed.isSome)

/-- The entry at the head of service leaves the queue undelivered: EXHAUSTED is reported and the
pupil is added to the call list (R135). -/
def exhaust (slot : Nat) (reason : CallReason) (s : State) : State :=
  addCallFor slot reason (reportAlert slot .exhausted (dropOutbound slot s))

/-- An entry is handed over to a contact (R135, R136). -/
def handOver (p : PortId) (e : Outbound) (ref : PupilRef) (c : Contact) (s : State) : State :=
  let tag := freeTag s Config.handedPlaces s.messages.tagCounter
  let attempts := satAdd 255 e.attempts 1
  let s :=
    setOutbound { e with handed := some ⟨tag, now s, false⟩, attempts := attempts } s
  let s := s.onMessages fun m => { m with tagCounter := nextTag tag }
  let s := reportAlert e.slot .handed s
  answerOk p
    (.handOver
      { tag := tag, kind := e.kind, ref := ref, contact := c.contact, channel := c.channel,
        sessions := e.sessions, attempt := attempts,
        arrival := match e.kind with | .correction => e.arrival | .alert => none })
    s

/-- TAKE-MESSAGE's search from the head of service (R135): an entry whose pupil has no contacts, or
whose contact index is at or beyond them, leaves the queue and the next is tried. -/
def serveQueue (p : PortId) : Nat → State → State
  | 0, s => answerOk p .nothingToSend s
  | fuel + 1, s =>
    match headOfService s with
    | none => answerOk p .nothingToSend s
    | some e =>
      match pupilAt s e.slot with
      | none => serveQueue p fuel (dropOutbound e.slot s)
      | some pupil =>
        match pupil.contacts[e.contactIndex]? with
        | some c => handOver p e pupil.ref c s
        | none =>
          serveQueue p fuel
            (exhaust e.slot (if pupil.contacts.isEmpty then .noContact else .exhausted) s)

/-- TAKE-MESSAGE's effect (R135): with eight entries HANDED the queue is not looked at. -/
def serveTakeMessage (p : PortId) (s : State) : State :=
  if Config.handedPlaces ≤ handedCount s then answerOk p .nothingToSend s
  else serveQueue p (s.messages.outbound.length + 1) s

/-- TAKE_MESSAGE (R135). -/
def execTakeMessage (f : Frame) (s : State) : Host.Outcome State Fault Refusal :=
  request f .takeMessage (serveTakeMessage f.port) s

/-! ### Results and timeouts -/

/-- An entry's kind and recall as the results read them. -/
def Outbound.recallSet (e : Outbound) : Bool := e.kind == .alert && e.recalled

/-- An entry leaves the queue with an outcome, unless its follow-on set holds a session still
UNEXPLAINED: then it returns to QUEUED as an alert for those sessions (R137). -/
def leaveOrFollowOn (e : Outbound) (outcome : AlertState) (s : State) : State :=
  let still := stillUnexplained s e.slot e.followOn
  if still.isEmpty then reportAlert e.slot outcome (dropOutbound e.slot s)
  else
    let e :=
      { e with
        kind := .alert, sessions := still, followOn := ⟨false, false⟩, recalled := false,
        contactIndex := 0, attempts := 0, arrival := none }
    reportAlert e.slot .queued (setOutbound (e.atBack s) s)

/-- A recalled alert that may have reached home becomes a CORRECTION at the back of its class
(R137, R139). -/
def becomeCorrection (e : Outbound) (s : State) : State :=
  let e :=
    { e with
      kind := .correction, recalled := false, attempts := 0,
      arrival := (recordAt s e.slot).signIn }
  reportAlert e.slot .queued (setOutbound (e.atBack s) s)

/-- An entry returns to its position as QUEUED with a contact index; an alert keeps only its sessions
still UNEXPLAINED, of both its sets, and one left with none leaves the queue (R131, R138, R139;
notes/assumptions/36). -/
def returnToPosition (e : Outbound) (contactIndex : Nat) (s : State) : State :=
  let e := { e with handed := none, contactIndex := contactIndex }
  match e.kind with
  | .alert =>
    let still := stillUnexplained s e.slot (e.sessions.union e.followOn)
    if still.isEmpty then reportAlert e.slot .withdrawn (dropOutbound e.slot s)
    else
      reportAlert e.slot .queued
        (setOutbound { e with sessions := still, followOn := ⟨false, false⟩ } s)
  | .correction => reportAlert e.slot .queued (setOutbound e s)

/-- DELIVERED for an entry whose after-close flag is clear (R137). -/
def resultDelivered (e : Outbound) (s : State) : State :=
  match e.kind with
  | .alert => if e.recalled then becomeCorrection e s else leaveOrFollowOn e .delivered s
  | .correction => leaveOrFollowOn e .corrected s

/-- How many contacts a slot's pupil has. -/
def contactCount (s : State) (slot : Nat) : Nat :=
  match pupilAt s slot with
  | some pupil => pupil.contacts.length
  | none => 0

/-- A failure for an entry whose after-close flag is clear (R138). -/
def resultFailed (e : Outbound) (s : State) : State :=
  if e.recallSet then leaveOrFollowOn e .withdrawn s
  else if e.contactIndex + 1 < contactCount s e.slot then
    returnToPosition e (e.contactIndex + 1) s
  else exhaust e.slot .exhausted s

/-- The alert state a result leaves for an entry with after close set (R143). -/
def afterCloseResult (e : Outbound) (delivered : Bool) : AlertState :=
  match e.kind with
  | .correction => if delivered then .corrected else .delivered
  | .alert => if delivered then .delivered else if e.recalled then .withdrawn else .unsent

/-- A gateway result is applied to a HANDED entry (R137, R138, R143). -/
def applyResult (e : Outbound) (h : Handed) (delivered : Bool) (s : State) : State :=
  if h.afterClose then
    reportAlert e.slot (afterCloseResult e delivered) (dropOutbound e.slot s)
  else if delivered then resultDelivered e s
  else resultFailed e s

/-- MESSAGE-RESULT's effect (R137, R138). A result for a tag handed before a RESTART and given again since
is called STALE by R144, which then has it settle the new entry. The part keeps nothing that tells the two
hand-overs apart, so the result is answered OK and settles the new entry, as R137 has it for any tag that
a HANDED entry holds (DESIGN CHOICE, unsafe, notes/assumptions/46). -/
def serveMessageResult (p : PortId) (tag : Nat) (outcome : Option Delivery) (s : State) : State :=
  match outcome with
  | none => refuse p .badField s
  | some o =>
    match handedWith s tag with
    | none => refuse p .stale s
    | some e =>
      match e.handed with
      | some h => answerOk p .empty (applyResult e h (decide (o = .delivered)) s)
      | none => refuse p .stale s

/-- MESSAGE_RESULT (R137). -/
def execMessageResult (f : Frame) (tag : Nat) (outcome : Option Delivery) (s : State) :
    Host.Outcome State Fault Refusal :=
  request f .messageResult (serveMessageResult f.port tag outcome) s

/-- What a timeout does to its entry, after the fault is reported (R139, R143). -/
def timeOut (e : Outbound) (h : Handed) (s : State) : State :=
  if h.afterClose then
    let outcome := match e.kind with | .alert => AlertState.unsent | .correction => .delivered
    reportAlert e.slot outcome (dropOutbound e.slot s)
  else if e.recallSet then becomeCorrection e s
  else returnToPosition e e.contactIndex s

/-- A HANDED entry whose time is up by the last second event times out (R139): handed time plus 900
seconds, by the rule of R2. -/
def expireHandover (s : State) (tag : Nat) : State :=
  match handedWith s tag with
  | none => s
  | some e =>
    match e.handed with
    | none => s
    | some h =>
      if reached (now s) (h.time.plus Config.handoverSeconds) then
        timeOut e h (reportFault ⟨.gatewayTimeout, none, some (.slot e.slot), now s⟩ s)
      else s

/-- Every hand-over timeout the last second event reached is taken (notes/assumptions/7). -/
def expireHandovers (s : State) : State :=
  (s.messages.outbound.filterMap fun e => e.handed.map (·.tag)).foldl expireHandover s

/-- HANDOVER_TIMEOUT (R139). -/
def execHandoverTimeout (tag : Nat) (s : State) : Host.Outcome State Fault Refusal :=
  event (fun s => expireHandover s tag) s

/-! ### Reading and clearing the call list -/

/-- READ-CALLS's effect (R141). -/
def serveReadCalls (p : PortId) (start : Nat) (s : State) : State :=
  if start < Config.callPlaces then
    let entries := s.messages.calls
    let items := indexed (fun i e => (⟨i, e, refAt s e.slot⟩ : CallItem)) entries
    answerOk p
      (.calls entries.length
        (indexedPart (replyLimit s p) (Config.fixedOctets (Kind.readCalls, entries.length)) start
          items)) s
  else refuse p .badField s

/-- READ_CALLS (R141). -/
def execReadCalls (f : Frame) (start : Nat) (s : State) : Host.Outcome State Fault Refusal :=
  request f .readCalls (serveReadCalls f.port start) s

/-- CLEAR-CALL's effect (R141). -/
def serveClearCall (p : PortId) (slot : Nat) (s : State) : State :=
  if slot < Config.slots then
    match callOf s slot with
    | some e => answerOk p (.callCleared e) (dropCall slot s)
    | none => refuse p .notFound s
  else refuse p .badField s

/-- CLEAR_CALL (R141). -/
def execClearCall (f : Frame) (slot : Nat) (s : State) : Host.Outcome State Fault Refusal :=
  request f .clearCall (serveClearCall f.port slot) s

/-! ### The ends of the day -/

/-- One outbound entry at a closing (R143): a QUEUED one reports its alert state, for it is
removed. -/
def reportUnsent (s : State) (e : Outbound) : State :=
  match e.handed, e.kind with
  | none, .alert => reportAlert e.slot .unsent s
  | none, .correction => reportAlert e.slot .delivered s
  | some _, _ => s

/-- The Message Unit takes a closing (R143): the Day Register's messages made before it are taken
first (notes/assumptions/10), then every QUEUED entry is removed and every HANDED entry has its
after-close flag set. R143 gives no order to the reports of the removed entries: they are made in the
order of the outbound list, the order in which the entries joined, and not in the service order (DESIGN
CHOICE, unsafe, notes/assumptions/40). -/
def closeMessages (s : State) : State :=
  let s := drainMessages s
  let s := s.messages.outbound.foldl reportUnsent s
  s.onMessages fun m =>
    { m with
      outbound := m.outbound.filterMap fun e =>
        e.handed.map fun h => { e with handed := some { h with afterClose := true } } }

/-- The Message Unit takes an opening (R144): every entry leaves the queue, with no report. -/
def openMessages (s : State) : State := s.onMessages fun m => { m with outbound := [] }

/-- The Message Unit's part of a clear (R69): the slot's outbound entry, call list entry and standing
notice are removed. -/
def clearMessages (slot : Nat) (s : State) : State :=
  dropStanding slot (dropCall slot (dropOutbound slot s))

end Sys2Proof.Machine
end

