-- ==== Sys2Proof/Machine/Pupils.lean ====
section
/-! DEFINITION. The Pupil Table: writing and clearing pupils, card windows, and READ-PUPIL
(chapter 05). -/

namespace Sys2Proof.Machine

open Sys2Proof

/-! ### WRITE-PUPIL -/

/-- The slot other than one whose ENROLLED record passes a test, if there is one. -/
def otherSlot (s : State) (slot : Nat) (test : Pupil → Bool) : Option Nat :=
  ((enrolled s).find? fun e => e.1 != slot && test e.2).map (·.1)

/-- The first check a WRITE-PUPIL fails, with its reply (R64, R66). -/
def pupilCheck (s : State) (r : PupilReq) : Option (Status × ReplyBody) :=
  if !pupilInRange r then some (.badField, .check .range none)
  else if (refAt s r.slot).any fun ref => ref != r.ref then
    some (.badField, .check .referenceChange none)
  else
    match otherSlot s r.slot fun e => e.ref == r.ref,
      otherSlot s r.slot fun e => r.card != 0 && e.card == r.card with
    | some slot, _ => some (.duplicate, .slotHeld slot)
    | none, some slot => some (.duplicate, .slotHeld slot)
    | none, none =>
      match s.day.state, pupilAt s r.slot with
      | .closed, _ => none
      | .open, none => none
      | .opening, none | .closing, none => some (.busy, .empty)
      | .opening, some e | .open, some e | .closing, some e =>
        if e.cohort = r.cohort then none else some (.busy, .empty)

/-- The open walk's reset of a slot's record: BLANK for the sessions of its plan for today, NONE for
the others (R96). -/
def resetForToday (slot : Nat) (s : State) : State :=
  let set :=
    match pupilAt s slot with
    | some pupil => sessionsToday s pupil.cohort
    | none => ⟨false, false⟩
  resetRecord slot (if set.am then .blank else .none) (if set.pm then .blank else .none) s

/-- WRITE-PUPIL taken (R65, R66): an enrolment in OPEN resets the slot's register record. -/
def takeWritePupil (p : PortId) (r : PupilReq) (s : State) : State :=
  let enrolment := (pupilAt s r.slot).isNone
  let s := setPupil r.slot (some r.stored) s
  let s := if enrolment ∧ s.day.state = .open then resetForToday r.slot s else s
  answerOk p (.pupilWritten ⟨r.slot, enrolment, planTodayOf s r.cohort⟩) s

/-- WRITE-PUPIL's effect (R64 to R66). -/
def serveWritePupil (p : PortId) (r : PupilReq) (s : State) : State :=
  match pupilCheck s r with
  | some (status, body) => answer p status false body s
  | none => takeWritePupil p r s

/-- WRITE_PUPIL (R64). -/
def execWritePupil (f : Frame) (r : PupilReq) (s : State) : Host.Outcome State Fault Refusal :=
  request f .writePupil (serveWritePupil f.port r) s

/-! ### CLEAR-PUPIL -/

/-- What a clear does in every block (R69). -/
def clearSlot (slot : Nat) (s : State) : State :=
  setTotals slot zeroAccumulator
    (clearMessages slot (resetRecord slot .none .none (setPupil slot none s)))

/-- CLEAR-PUPIL's effect (R68). R68 orders its three refusals by no more than its text: BAD_FIELD, then
NOT_FOUND, then BUSY (DESIGN CHOICE, unsafe, notes/assumptions/44). -/
def serveClearPupil (p : PortId) (slot : Nat) (ref : PupilRef) (s : State) : State :=
  if slot < Config.slots then
    if holdsRef s slot ref then
      if s.roll.state = .idle then
        let e := outboundOf s slot
        answerOk p (.pupilCleared slot e.isSome (e.any (·.handed.isSome))) (clearSlot slot s)
      else refuse p .busy s
    else refuse p .notFound s
  else refuse p .badField s

/-- CLEAR_PUPIL (R68). -/
def execClearPupil (f : Frame) (slot : Nat) (ref : PupilRef) (s : State) :
    Host.Outcome State Fault Refusal :=
  request f .clearPupil (serveClearPupil f.port slot ref) s

/-! ### Card windows -/

/-- A valid window with its first and last slot (R71). -/
def windowView (w : CardWindow) : WindowView :=
  ⟨w, w.slotBase, w.slotBase + w.mask, decide (Config.slots ≤ w.slotBase + w.mask)⟩

/-- All eight windows as a reply gives them (R71). -/
def windowViews (s : State) : List (Option WindowView) :=
  s.pupils.windows.toList.map (·.map windowView)

/-- WRITE-WINDOW's effect (R71). -/
def serveWriteWindow (p : PortId) (number : Nat) (window : Option CardWindow) (s : State) : State :=
  if decide (number < 8) && window.all cardWindowOk then
    let s :=
      { s with pupils := { s.pupils with windows := setNth s.pupils.windows number window } }
    answerOk p (.windows (windowViews s)) s
  else refuse p .badField s

/-- WRITE_WINDOW (R71). -/
def execWriteWindow (f : Frame) (number : Nat) (window : Option CardWindow) (s : State) :
    Host.Outcome State Fault Refusal :=
  request f .writeWindow (serveWriteWindow f.port number window) s

/-! ### READ-PUPIL -/

/-- A slot as READ-PUPIL returns it (R76). -/
def pupilView (s : State) (slot : Nat) : PupilView :=
  ⟨slot, pupilAt s slot, (pupilAt s slot).bind fun e => planTodayOf s e.cohort⟩

/-- READ-PUPIL CARD (R76): a card of 0 is not matched, and is answered as an unknown card
(notes/assumptions/20). -/
def answerCard (p : PortId) (card : Nat) (s : State) : State :=
  match if card = 0 then CardMatch.unknown else cardMatch s card with
  | .matched slot w pupil =>
    answerOk p (.card (.matched slot w pupil) (some (pupilView s slot))) s
  | .unknown => answer p .notFound false (.card .unknown none) s
  | .mismatch w slot => answer p .notFound false (.card (.mismatch w slot) none) s

/-- READ-PUPIL's effect (R76). -/
def serveReadPupil (p : PortId) (selector : PupilSelector) (s : State) : State :=
  match selector with
  | .slot slot =>
    if slot < Config.slots then answerOk p (.pupil (pupilView s slot)) s else refuse p .badField s
  | .list start =>
    if start < Config.slots then
      let slots := ((enrolled s).map (·.1)).filter fun k => decide (start ≤ k)
      answerOk p
        (.pupils
          (slotPart (replyLimit s p) (Config.fixedOctets Kind.readPupil) (·.slot)
            (slots.map (pupilView s)))) s
    else refuse p .badField s
  | .reference ref =>
    match lookup s ref with
    | some (slot, _) => answerOk p (.pupil (pupilView s slot)) s
    | none => refuse p .notFound s
  | .card card => if card ≤ 16777215 then answerCard p card s else refuse p .badField s
  | .windows => answerOk p (.windows (windowViews s)) s
  | .unknown => refuse p .badField s

/-- READ_PUPIL (R76). -/
def execReadPupil (f : Frame) (selector : PupilSelector) (s : State) :
    Host.Outcome State Fault Refusal :=
  request f .readPupil (serveReadPupil f.port selector) s

end Sys2Proof.Machine
end

