-- ==== Sys2Proof/Machine/Sweeps.lean ====
section
/-! DEFINITION. The visits of the register walker: session sweeps, route sweeps, group walks and the
open and close walks (R91, R96, R97, R118 to R120). -/

namespace Sys2Proof.Machine

open Sys2Proof

/-- A visit of the walk in hand: what it does at the cursor's slot, after which the cursor advances
(R118). The walker visits only while it has a walk in hand that is not PAUSED, and the walk is of the
kind the visit belongs to. -/
def visit (effect : Walk → Nat → State → Option State) (s : State) : State :=
  match s.register.walker.hand with
  | none => s
  | some walk =>
    if s.register.walker.visiting then
      match effect walk s.register.walker.cursor s with
      | some s => advanceCursor s
      | none => s
    else s

/-! ### Sweeps -/

/-- Whether a mark is one a sweep proposes over (R119, R120). -/
def sweepable (mark : Mark) : Bool := mark == .blank || mark == .notSeen

/-- The walker's proposal of UNEXPLAINED (R119). -/
def sweepProposal (s : State) (slot : Nat) (session : Session) : Proposal :=
  plainProposal slot session .unexplained .sweep (now s)

/-- What a session sweep does at a slot (R119). -/
def sessionSweep (plan : Nat) (session : Session) (slot : Nat) (s : State) : State :=
  match pupilAt s slot with
  | none => s
  | some pupil =>
    if cohortPlan s pupil.cohort = some plan ∧ routeHeld s pupil.route = false
        ∧ sweepable (markOf s slot session) = true then
      (propose (sweepProposal s slot session) s).1
    else s

/-- SESSION_SWEEP_VISIT (R119). -/
def execSessionSweepVisit (s : State) : Host.Outcome State Fault Refusal :=
  event
    (visit fun walk slot s =>
      match walk with
      | .item (.session i) => some (sessionSweep i.plan i.session slot s)
      | .item (.route _) | .item (.group _) | .openWalk | .closeWalk => none)
    s

/-- What a route sweep does for one session of a slot (R120). -/
def routeSweepSession (plan slot : Nat) (s : State) (session : Session) : State :=
  if closedFor s plan session && sweepable (markOf s slot session) then
    (propose (sweepProposal s slot session) s).1
  else s

/-- What a route sweep does at a slot (R120). -/
def routeSweep (routes : RouteSet) (slot : Nat) (s : State) : State :=
  match pupilAt s slot with
  | none => s
  | some pupil =>
    match planTodayOf s pupil.cohort with
    | none => s
    | some today =>
      if pupil.route ≠ 0 ∧ routes.getLsbD pupil.route = true
          ∧ routeHeld s pupil.route = false then
        today.sessions.list.foldl (routeSweepSession today.plan slot) s
      else s

/-- ROUTE_SWEEP_VISIT (R120). -/
def execRouteSweepVisit (s : State) : Host.Outcome State Fault Refusal :=
  event
    (visit fun walk slot s =>
      match walk with
      | .item (.route i) => some (routeSweep i.routes slot s)
      | .item (.session _) | .item (.group _) | .openWalk | .closeWalk => none)
    s

/-! ### Group walks -/

/-- The group-mark outcome record with one decision counted (R91). -/
def GroupOutcome.count (g : GroupOutcome) : Decision → GroupOutcome
  | .applied | .repeated => { g with applied := g.applied + 1 }
  | .held | .conflict => { g with held := g.held + 1 }
  | .notScheduled => { g with skipped := g.skipped + 1 }

/-- The GROUP proposal of one session of a slot, counted (R91). -/
def groupSession (mark : Mark) (slot : Nat) (s : State) (session : Session) : State :=
  let decided := propose (plainProposal slot session mark .group (now s)) s
  decided.1.onRegister fun r => { r with group := r.group.count decided.2 }

/-- What a group walk does at a slot (R91). -/
def groupWalk (c : GroupContents) (slot : Nat) (s : State) : State :=
  match pupilAt s slot with
  | none => s
  | some pupil =>
    if pupil.groups &&& c.groups ≠ 0 ∧ c.cohorts.getLsbD pupil.cohort = true then
      c.sessions.list.foldl (groupSession c.mark slot) s
    else s

/-- GROUP_WALK_VISIT (R91). -/
def execGroupWalkVisit (s : State) : Host.Outcome State Fault Refusal :=
  event
    (visit fun walk slot s =>
      match walk with
      | .item (.group i) => some (groupWalk i.contents slot s)
      | .item (.session _) | .item (.route _) | .openWalk | .closeWalk => none)
    s

/-! ### The open and close walks -/

/-- What the open walk does at a slot (R96, R129). -/
def openVisit (slot : Nat) (s : State) : State := visitStanding slot (resetForToday slot s)

/-- OPEN_WALK_VISIT (R96). -/
def execOpenWalkVisit (s : State) : Host.Outcome State Fault Refusal :=
  event
    (visit fun walk slot s =>
      match walk with
      | .openWalk => some (openVisit slot s)
      | .item _ | .closeWalk => none)
    s

/-- The close walk's FINAL proposal for one session (R97). -/
def finalMark (slot : Nat) (close : Stamp) (s : State) (session : Session) : State :=
  (propose (plainProposal slot session .unexplained .final close) s).1

/-- The close walk's accrual of open minutes for one session still UNEXPLAINED (R97, R148). -/
def accrueOpen (slot : Nat) (ref : PupilRef) (close : Stamp) (s : State) (session : Session) :
    State :=
  let r := recordAt s slot
  let m := r.session session
  match m.mark, m.since with
  | .unexplained, some since =>
    tellAccumulators (.openMinutes slot ref (secondsBetween since close / 60))
      (setRecord slot (r.setSession session { m with since := none }) s)
  | _, _ => s

/-- What the close walk does at a slot (R97, R149). -/
def closeVisit (slot : Nat) (s : State) : State :=
  match pupilAt s slot with
  | none => s
  | some pupil =>
    let close := s.day.closeTime.getD (now s)
    let s := [Session.am, .pm].foldl (finalMark slot close) s
    let s := [Session.am, .pm].foldl (accrueOpen slot pupil.ref close) s
    tellAccumulators
      (.fold slot pupil.ref (today s) (markOf s slot .am) (markOf s slot .pm)) s

/-- CLOSE_WALK_VISIT (R97). -/
def execCloseWalkVisit (s : State) : Host.Outcome State Fault Refusal :=
  event
    (visit fun walk slot s =>
      match walk with
      | .closeWalk => some (closeVisit slot s)
      | .item _ | .openWalk => none)
    s

end Sys2Proof.Machine
end

