-- ==== Sys2Proof/Machine/SchoolDay.lean ====
section
/-! DEFINITION. The School Clock and the day state: second and minute events, SET-TIME, and the
taking of an opening and of a closing (chapter 01). -/

namespace Sys2Proof.Machine

open Sys2Proof

/-- Changes the day state record alone. -/
def State.onDay (s : State) (f : DayRecord → DayRecord) : State := { s with day := f s.day }

/-- Changes the clock alone. -/
def State.onClock (s : State) (f : Clock → Clock) : State := { s with clock := f s.clock }

/-! ### Openings and closings -/

/-- The first condition of an opening that fails in CLOSED (R9). -/
def openingFails (s : State) : Option Status :=
  if !s.clock.valid then some .noClock
  else if s.day.opened = some s.clock.day then some .duplicate
  else if (plansForDay s.store s.clock.day).toList.all (·.isNone) then some .notScheduled
  else none

/-- The effective timetables an opening builds: one from nominal for each plan in use today
(R10, R32). -/
def nominalTables (s : State) : List PlanTable :=
  ((List.range 8).map (· + 1)).filterMap fun plan =>
    if inUse s plan then (planBody s.store plan).map (buildTable plan) else none

/-- The Day Register's part of an opening (R96, R10). -/
def openRegister (r : DayRegister) : DayRegister :=
  { r with
    amendments := []
    lost := 0
    closed := Vector.replicate 8 ⟨false, false⟩
    group := .none
    walker := { r.walker with hand := some .openWalk, cursor := 0 } }

/-- The day state record when an opening is taken (R10). -/
def openDay (s : State) (d : DayRecord) : DayRecord :=
  { d with
    state := .opening
    opened := some s.clock.day
    register := some s.clock.day
    closePending := false
    plans := plansForDay s.store s.clock.day }

/-- An opening is taken (R10, R144). -/
def takeOpening (s : State) : State :=
  let s := s.onDay (openDay s)
  let s := { s with timetable := { s.timetable with tables := nominalTables s, current := none } }
  openMessages (s.onRegister openRegister)

/-- Every route hold ends, with no route sweep (R14, R109). -/
def endHolds (s : State) : State := { s with arrivals := ⟨[], 0⟩ }

/-- The Day Register's part of a closing: the queue is discarded, the walk in hand stops, and the
close walk starts (R123, R124). -/
def closeWalks (r : DayRegister) : DayRegister :=
  let r := stopWalks r
  { r with walker := { r.walker with hand := some .closeWalk, cursor := 0 } }

/-- A closing is taken (R14, R47, R143). R14 has it reach the blocks in any order among them. Here the Day
Register goes first, then the Arrivals Unit, the Message Unit and the Timetable Engine, so the fault-valid
flag of the DAY_CLOSED replies that the Timetable Engine forms shows a QUEUE_FULL or a CALL_LIST_FULL of
the messages the Message Unit takes here (DESIGN CHOICE, unsafe, notes/assumptions/10). -/
def takeClosing (s : State) : State :=
  let s :=
    s.onDay fun d => { d with state := .closing, closeTime := some (now s), closePending := false }
  abandonRecompute (closeMessages (endHolds (s.onRegister closeWalks)))

/-! ### Minute and second events -/

/-- The auto-open minute (R9). -/
def autoOpen (minute : Nat) (s : State) : State :=
  if minute = s.store.settings.autoOpen ∧ s.day.state = .closed ∧ openingFails s = none then
    takeOpening s
  else s

/-- The auto-close minute (R12). -/
def autoClose (minute : Nat) (s : State) : State :=
  if minute = s.store.settings.autoClose then
    match s.day.state with
    | .open => takeClosing s
    | .opening => s.onDay fun d => { d with closePending := true }
    | .closed | .closing => s
  else s

/-- A minute event, as the day logic and then the Timetable Engine take it (R2;
notes/assumptions/13). -/
def minuteEvent (stamp : Stamp) (s : State) : State :=
  let minute := stamp.time / 60
  timetableMinute minute stamp.day (autoClose minute (autoOpen minute s))

/-- The minute event of a new time of day, when it is a whole multiple of 60 (R2). -/
def minuteIfWhole (stamp : Stamp) (s : State) : State :=
  if stamp.time % 60 = 0 then minuteEvent stamp s else s

/-- Every expiry the last second event reached, of a route hold or a hand-over, is taken at the
latest before the next one (notes/assumptions/7). -/
def settleExpiries (s : State) : State := expireHandovers (expireHolds s)

/-- The next second (R1, R16). -/
def Clock.advance (c : Clock) : Clock :=
  if c.time + 1 < 86400 then { c with time := c.time + 1, subSecond := 0 }
  else { c with time := 0, day := c.day + 1, subSecond := 0 }

/-- The Arrivals Unit takes a second event: a hold whose expiry was already past when it was
redeclared may now end (R111). -/
def endWaits (s : State) : State := { s with arrivals := { s.arrivals with waits := 0 } }

/-- A second event as the blocks that keep an end time take it (R2, R50, R58). -/
def secondTaken (s : State) : State := (endWaits s).onBells (·.second)

/-- The time of day advances by one second and the events are raised (R1, R2). A minute event is taken
here, whole, and so an auto-open, an auto-close and what the tables raise at the minute; a hand-over
timeout or a hold's end that the same second reaches is a later step (R112, R139; DESIGN CHOICE, unsafe,
notes/assumptions/38). R50 lets each bell request of the second go before or after the second event;
here all of them go on one side of it, as the operand says, so two or more requests in one second cannot
be taken some before and some after (DESIGN CHOICE, unsafe, notes/assumptions/14). -/
def tick (bellsFirst : Bool) (s : State) : State :=
  let s := (settleExpiries s).onClock Clock.advance
  if bellsFirst then minuteIfWhole (now s) (secondTaken s)
  else secondTaken (minuteIfWhole (now s) s)

/-- SECOND_EVENT (R2). -/
def execSecondEvent (bellsFirst : Bool) (s : State) : Host.Outcome State Fault Refusal :=
  event (tick bellsFirst) s

/-! ### SET-TIME and READ-TIME -/

/-- The longest small step, in seconds (R5, R6). -/
def smallStep : Nat := 120

/-- The minute events a forward small step raises, in ascending order of time (R6). -/
def stepMinutes (old : Stamp) (step : Int) : List Stamp :=
  let first := (old.position / 60 + 1) * 60
  ((List.range (smallStep / 60)).map fun i => first + 60 * i).filterMap fun x =>
    if x ≤ old.position + step.toNat then some (stampAt (x % positions)) else none

/-- Whether SET-TIME is taken (R5). -/
def setTimeTaken (s : State) (step : Int) (base : Nat) : Bool :=
  match s.day.state with
  | .closed => true
  | .opening | .open | .closing =>
    s.clock.valid && base == s.store.settings.weekdayBase && decide (step.natAbs ≤ smallStep)

/-- SET-TIME's effect (R5 to R7). -/
def serveSetTime (p : PortId) (time : Nat) (day : DayNumber) (base : Nat) (s : State) : State :=
  if 86399 < time ∨ 6 < base then refuse p .badField s
  else
    let new : Stamp := ⟨time, day⟩
    let step := stampDiff new (now s)
    if setTimeTaken s step base then
      let valid := s.clock.valid
      let minutes :=
        if valid = true ∧ step.natAbs ≤ smallStep then stepMinutes (now s) step else []
      let s := (settleExpiries s).onClock fun _ => ⟨time, day, 0, true⟩
      let s :=
        { s with
          store := { s.store with settings := { s.store.settings with weekdayBase := base } } }
      let s := secondTaken (minutes.foldl (fun s m => minuteEvent m s) s)
      answerOk p (.timeSet time day (if valid then some step else none) minutes.length) s
    else refuse p .busy s

/-- SET_TIME (R5). -/
def execSetTime (f : Frame) (time : Nat) (day : DayNumber) (weekdayBase : Nat) (s : State) :
    Host.Outcome State Fault Refusal :=
  request f .setTime (serveSetTime f.port time day weekdayBase) s

/-- READ-TIME's reply (R4). -/
def timeReply (s : State) : TimeReply :=
  { time := s.clock.time, day := s.clock.day, weekdayBase := s.store.settings.weekdayBase,
    weekday := weekdayOf s.store.settings.weekdayBase s.clock.day, valid := s.clock.valid,
    state := s.day.state, register := s.day.register, opened := s.day.opened }

/-- READ_TIME (R4). -/
def execReadTime (f : Frame) (s : State) : Host.Outcome State Fault Refusal :=
  request f .readTime (fun s => answerOk f.port (.time (timeReply s)) s) s

/-! ### DAY-OPEN, DAY-CLOSE and RESTART -/

/-- DAY-OPEN's effect (R9): the reply of one that is taken is held. -/
def serveDayOpen (p : PortId) (s : State) : State :=
  match s.day.state with
  | .closed =>
    match openingFails s with
    | some status => refuse p status s
    | none => (takeOpening s).onDay fun d => { d with openPort := some p }
  | .opening | .open | .closing => refuse p .busy s

/-- DAY_OPEN (R9). -/
def execDayOpen (f : Frame) (s : State) : Host.Outcome State Fault Refusal :=
  request f .dayOpen (serveDayOpen f.port) s

/-- DAY-CLOSE's effect (R12): the reply of one that is taken is held. -/
def serveDayClose (p : PortId) (s : State) : State :=
  match s.day.state with
  | .open => (takeClosing s).onDay fun d => { d with closePort := some p }
  | .opening | .closing => refuse p .busy s
  | .closed => refuse p .dayClosed s

/-- DAY_CLOSE (R12). -/
def execDayClose (f : Frame) (s : State) : Host.Outcome State Fault Refusal :=
  request f .dayClose (serveDayClose f.port) s

/-- RESTART (R18): answered OK; it takes effect once the reply has left (RESTART_EFFECT). -/
def execRestart (f : Frame) (s : State) : Host.Outcome State Fault Refusal :=
  request f .restart (answerOk f.port .empty) s

end Sys2Proof.Machine
end

