-- ==== Sys2Proof/Machine/Held.lean ====
section
/-! DEFINITION. The completions that let held requests go on: the end of the open walk, the end of
the close walk and the swap; and the changes of the ALARM line. -/

namespace Sys2Proof.Machine

open Sys2Proof

/-! ### Held requests -/

/-- A held request is taken by the rule that owns it, as if it had arrived at that moment (R11). -/
def serveHeld (h : Held) (s : State) : State :=
  match h.request with
  | .mark r => serveMark h.port r s
  | .groupMark r => serveGroupMark h.port r s
  | .signIn r => serveSignIn h.port r s
  | .signOut r => serveSignOut h.port r s
  | .routeHold r => serveRouteHold h.port r s
  | .shift r => serveShift h.port r s
  | .notice r => serveNotice h.port r s
  | .confirmNotice slot conflictFirst => serveConfirmNotice h.port slot conflictFirst s
  | .readRegister selector => serveReadRegister h.port selector s
  | .readChanges => serveReadChanges h.port s
  | .readTimetable plan start => serveReadTimetable h.port plan start s

/-- What waits for the open walk or the close walk to complete: a held request, or a pending close
(R11, R15). -/
inductive Waiting where
  | request (held : Held)
  | close
deriving DecidableEq, Repr

/-- One thing that waited is taken. -/
def takeOne (w : Waiting) (s : State) : State :=
  match w with
  | .request h => serveHeld h s
  | .close => takeClosing s

/-- The place taken at a turn: the one the order names, or the first when there is no such place. -/
def turn (order : List Nat) (count : Nat) : Nat :=
  if order.headD 0 < count then order.headD 0 else 0

/-- Everything that waited is taken, one at a time, in the order the command gives (R11, R15;
notes/assumptions/14). The first argument is how many are left to take. -/
def takeWaiting : Nat → List Nat → List Waiting → State → State
  | 0, _, _, s => s
  | left + 1, order, todo, s =>
    let i := turn order todo.length
    match todo[i]? with
    | none => s
    | some w => takeWaiting left order.tail (todo.eraseIdx i) (takeOne w s)

/-- The held requests are taken off the day state record's list and taken, with a pending close
among them when there is one. -/
def releaseHeld (order : List Nat) (s : State) : State :=
  let todo :=
    s.day.held.map Waiting.request ++ (if s.day.closePending then [Waiting.close] else [])
  takeWaiting todo.length order todo (s.onDay fun d => { d with held := [], closePending := false })

/-! ### The open walk completes -/

/-- The Timetable Engine's part of the open walk's completion (R11, R33, R34). -/
def openTimetable (s : State) : State :=
  match runningMinute s (s.clock.time / 60) s.clock.day with
  | some m => raiseDue false m (tablePlans s) (setCurrent (some m) s)
  | none => s

/-- The Site Roll's part of the open walk's completion (R11, R155). -/
def openRoll (r : SiteRoll) : SiteRoll :=
  match r.state with
  | .idle => if r.alarm then startBuild r else r
  | .building _ | .active | .standing => r

/-- A held DAY-OPEN reply is sent (R9, R11). -/
def answerOpened (s : State) : State :=
  match s.day.openPort with
  | none => s
  | some p =>
    let d := today s
    answerOk p
      (.dayOpened d (weekdayOf s.store.settings.weekdayBase d) (plansInUse s))
      (s.onDay fun r => { r with openPort := none })

/-- The open walk completes (R11). -/
def completeOpen (order : List Nat) (s : State) : State :=
  let s := (s.onDay fun d => { d with state := .open }).onRegister dropWalk
  releaseHeld order (answerOpened ((openTimetable s).onRoll openRoll))

/-- OPEN_WALK_COMPLETE (R11): an open walk that has visited slot 2047 completes. -/
def execOpenWalkComplete (order : List Nat) (s : State) : Host.Outcome State Fault Refusal :=
  event
    (fun s =>
      if s.register.walker.hand = some .openWalk ∧ s.register.walker.cursor = Config.slots then
        completeOpen order s
      else s)
    s

/-! ### The close walk completes -/

/-- Every cohort's today-override is cleared (R15, R25). -/
def clearOverrides (store : PlanStore) : PlanStore :=
  { store with cohorts := mapNth (fun _ c => { c with override := .absent }) store.cohorts }

/-- The quiet windows are cleared (R15, R55). -/
def clearQuiet (u : BellUnit) : BellUnit := { u with quiet := Vector.replicate 8 .empty }

/-- The effective timetables are discarded (R15, R32). In CLOSED there is no register day to count
running minutes from, and R33 gives the current minute no value there: the model makes it absent (DESIGN
CHOICE, unsafe, notes/assumptions/16). -/
def discardTables (s : State) : State :=
  { s with timetable := { s.timetable with tables := [], current := none } }

/-- The term day count goes up by 1 and wraps (R15, R151). -/
def countTermDay (s : State) : State :=
  { s with totals := { s.totals with termDays := (s.totals.termDays + 1) % 65536 } }

/-- A held DAY-CLOSE reply is sent (R12, R15). -/
def answerClosed (register : DayNumber) (close : Stamp) (s : State) : State :=
  match s.day.closePort with
  | none => s
  | some p =>
    answerOk p (.dayClosed register close) (s.onDay fun r => { r with closePort := none })

/-- The day state record after the close walk (R15). -/
def closedDay (d : DayRecord) : DayRecord :=
  { d with
    state := .closed, register := none, closeTime := none, plans := Vector.replicate 8 none }

/-- The close walk completes (R15). -/
def completeClose (order : List Nat) (s : State) : State :=
  let register := today s
  let close := s.day.closeTime.getD (now s)
  let s := countTermDay (discardTables ((s.onBells clearQuiet).onStore clearOverrides))
  let s := ((s.onRoll emptyRoll).onRegister dropWalk).onDay closedDay
  releaseHeld order (answerClosed register close s)

/-- CLOSE_WALK_COMPLETE (R15): a close walk that has visited slot 2047 completes. -/
def execCloseWalkComplete (order : List Nat) (s : State) : Host.Outcome State Fault Refusal :=
  event
    (fun s =>
      if s.register.walker.hand = some .closeWalk ∧ s.register.walker.cursor = Config.slots then
        completeClose order s
      else s)
    s

/-! ### The swap -/

/-- Requests held for the swap are taken one at a time in the order they were held; once one has
started a recompute, those after it stay held (R46). -/
def takeHeldForSwap : List Held → State → State
  | [], s => s
  | h :: rest, s =>
    if s.timetable.recompute.isSome then
      { s with timetable := { s.timetable with held := h :: rest } }
    else takeHeldForSwap rest (serveHeld h s)

/-- The swap is taken (R46). -/
def takeSwap (r : Recompute) (s : State) : State :=
  let held := s.timetable.held
  takeHeldForSwap held (swapTables r { s with timetable := { s.timetable with held := [] } })

/-- SWAP (R46): the computation of every plan of the recompute has completed. -/
def execSwap (s : State) : Host.Outcome State Fault Refusal :=
  event
    (fun s =>
      match s.timetable.recompute with
      | some r => if r.complete then takeSwap r s else s
      | none => s)
    s

/-! ### The ALARM line -/

/-- The Bell Unit, the Site Roll and the register walker take a change of the ALARM line
(R60, R61, R122, R154). -/
def takeAlarm (alarm : Bool) (s : State) : State :=
  let s := s.onBells fun u => if alarm then u.alarmOn else u.alarmOff
  (s.onRoll (rollAlarm s.day.state alarm)).onRegister (walkerAlarm alarm)

/-- ALARM_ASSERT (R60, R154). The level of the line changes whatever the part does. -/
def execAlarmAssert (s : State) : Host.Outcome State Fault Refusal :=
  event (takeAlarm true) { s with lines := { s.lines with alarm := true } }

/-- ALARM_RELEASE (R61, R154). -/
def execAlarmRelease (s : State) : Host.Outcome State Fault Refusal :=
  event (takeAlarm false) { s with lines := { s.lines with alarm := false } }

end Sys2Proof.Machine
end

