-- ==== Sys2Proof/Machine/Reset.lean ====
section
/-! DEFINITION. Power-on reset and RESTART: what is kept, what is cleared, and what every other part
of the state becomes (R17, R18). -/

namespace Sys2Proof.Machine

open Sys2Proof

/-- The Message Unit after a reset that keeps the retained items: the standing notice list and the
call list (R125, R140); the outbound queue is empty and the tag counter 1 (R131, R136). -/
def MessageUnit.restarted (m : MessageUnit) : MessageUnit :=
  { MessageUnit.cleared with standing := m.standing, calls := m.calls }

/-- Everything that is not retained takes its value after power-on reset, but for the clock and the
port roles, which are given (R17, R18). -/
def restartWith (clock : Clock) (roles : Vector Role 6) (s : State) : State :=
  { clock := clock
    day := .reset
    store := s.store
    timetable := .reset
    bells := .reset s.lines.push s.lines.alarm
    pupils := s.pupils
    register := .reset s.lines.alarm
    arrivals := ⟨[], 0⟩
    messages := s.messages.restarted
    totals := s.totals
    roll := .reset s.lines.alarm
    link := .reset roles
    wires := .none
    lines := s.lines
    pending := s.pending }

/-- RESTART takes effect (R18): the clock and the port roles stay, and every retained item keeps its
content. -/
def restartEffect (s : State) : State :=
  restartWith s.clock (mapNth (fun _ r => r.role) s.link.ports) s

/-- RESTART_EFFECT (R18): the reply of a RESTART has left its port. -/
def execRestartEffect (s : State) : Host.Outcome State Fault Refusal :=
  event (fun s => if s.link.restartDue then restartEffect s else s) s

/-- The retained state cleared (R17). -/
def clearRetained (s : State) : State :=
  { s with
    store := .cleared
    pupils := .cleared
    messages := .cleared
    totals := ⟨[], 0⟩ }

/-- Power-on reset takes effect (R17): the straps and RETAIN_OK are sampled. -/
def powerOn (straps : Vector (BitVec 3) 6) (retainOk : Bool) (s : State) : State :=
  let s := if retainOk then s else clearRetained s
  let s :=
    { s with lines := { s.lines with resetN := true, retainOk := retainOk, straps := straps } }
  restartWith .reset (mapNth (fun _ b => roleOfStraps b) straps) s

/-- POWER_ON_RESET (R17): RESET_N returns high. -/
def execPowerOnReset (straps : Vector (BitVec 3) 6) (retainOk : Bool) (s : State) :
    Host.Outcome State Fault Refusal :=
  .next (powerOn straps retainOk s)

/-- RESET_N_LOW (R17): the part takes no frame and raises no event until RESET_N returns high. What
was taken before is stored whole (R30, R77, R145). -/
def execResetNLow (s : State) : Host.Outcome State Fault Refusal :=
  .next { s with lines := { s.lines with resetN := false } }

end Sys2Proof.Machine
end

