-- ==== Sys2Proof/Machine/Ports.lean ====
section
/-! DEFINITION. The Link Interface: the faults its receivers record, the end of a reply, reply
limits, port control and the first-fault record (chapter 12). -/

namespace Sys2Proof.Machine

open Sys2Proof

/-- Sets a port's receive state. -/
def setReceive (p : PortId) (r : ReceiveState) (s : State) : State :=
  s.setPort p { s.port p with receive := r }

/-- Whether a port's receiver is gathering a frame. -/
def gathering (s : State) (p : PortId) : Bool :=
  listening s p && decide ((s.port p).receive = .inFrame)

/-! ### Receive events -/

/-- SYNC_OCTET (R162): 0x5A taken in HUNTING starts a frame. -/
def execSyncOctet (p : PortId) (s : State) : Host.Outcome State Fault Refusal :=
  event (fun s => if listening s p then setReceive p .inFrame s else s) s

/-- FRAME_HEADER_FAULT (R162): a header that fails its check, or whose length is over 240, is
recorded, and the receiver hunts again from the octet after the sync octet. -/
def execFrameHeaderFault (p : PortId) (h : Header) (s : State) :
    Host.Outcome State Fault Refusal :=
  event
    (fun s =>
      match h.cause with
      | some cause =>
        if gathering s p then
          recordCause p cause (setReceive p (if h.holdsSync then .inFrame else .hunting) s)
        else s
      | none => s)
    s

/-- FRAME_CHECK_FAULT (R162): a frame with a sound header whose CRC does not match is recorded, and
the receiver hunts again with the octet after the frame. -/
def execFrameCheckFault (p : PortId) (octets : List Octet) (crc : BitVec 16) (s : State) :
    Host.Outcome State Fault Refusal :=
  event
    (fun s =>
      if gathering s p ∧ frameBodyOk octets ∧ frameCrc octets ≠ crc then
        recordCause p .check (setReceive p .hunting s)
      else s)
    s

/-- RECEIVE_GAP_TIMEOUT (R162): a gap of more than 50 ms inside a frame. -/
def execReceiveGapTimeout (p : PortId) (s : State) : Host.Outcome State Fault Refusal :=
  event
    (fun s =>
      if gathering s p then recordCause p .truncated (setReceive p .hunting s) else s)
    s

/-- A complete frame on a port IN_SERVICE records OVERLAP and is discarded (R163). -/
def overlapFrame (p : PortId) (s : State) : State :=
  match (s.port p).service with
  | .inService _ _ _ => recordCause p .overlap (setReceive p .hunting s)
  | .idle => s

/-- FRAME_OVERLAP (R163). -/
def execFrameOverlap (p : PortId) (s : State) : Host.Outcome State Fault Refusal :=
  event (fun s => if listening s p then overlapFrame p s else s) s

/-- A complete frame whose kind is not in the kind-and-role table: taken by an IDLE port and answered
UNKNOWN_KIND (R163 check 1). -/
def takeUnknownKind (p : PortId) (kind tag : Octet) (s : State) : State :=
  match (s.port p).service with
  | .inService _ _ _ => overlapFrame p s
  | .idle => refuse p .unknownKind (enterService p kind tag s)

/-- UNKNOWN_KIND_FRAME (R163). -/
def execUnknownKindFrame (p : PortId) (kind tag : Octet) (s : State) :
    Host.Outcome State Fault Refusal :=
  event
    (fun s =>
      if listening s p && (kindOfOctet kind).isNone then takeUnknownKind p kind tag s else s)
    s

/-! ### The end of a reply -/

/-- Whether a reply is the OK of a RESTART (R18). -/
def Reply.restarts (r : Reply) : Bool :=
  r.kind == Kind.restart.octet ||| 0x80 && r.head.status == .ok

/-- The last octet of a port's reply has left: its service is IDLE, and the reply of a RESTART lets
the restart take effect (R163, R18). -/
def completeReply (p : PortId) (s : State) : State :=
  match (s.port p).reply with
  | none => s
  | some r =>
    let s := s.setPort p { s.port p with reply := none, service := .idle }
    if r.restarts then { s with link := { s.link with restartDue := true } } else s

/-- REPLY_COMPLETE (R163). -/
def execReplyComplete (p : PortId) (s : State) : Host.Outcome State Fault Refusal :=
  event (completeReply p) s

/-! ### Reply limit and link status -/

/-- A reply limit brought into 16 to 240 (R165). -/
def clampLimit (octets : Nat) : Nat := max 16 (min 240 octets)

/-- SET-REPLY-LIMIT's effect (R165). -/
def serveSetReplyLimit (p : PortId) (octets : Nat) (s : State) : State :=
  answer p .ok (decide (octets < 16) || decide (240 < octets)) (.replyLimit (clampLimit octets))
    (s.setPort p { s.port p with limit := clampLimit octets })

/-- SET_REPLY_LIMIT (R165). -/
def execSetReplyLimit (f : Frame) (octets : Nat) (s : State) : Host.Outcome State Fault Refusal :=
  request f .setReplyLimit (serveSetReplyLimit f.port octets) s

/-- One port as LINK-STATUS reports it (R166). -/
def portReport (r : Port) : PortReport :=
  { role := r.role, state := r.state, inService := decide (r.service ≠ .idle), limit := r.limit,
    faults := r.faults, discarded := r.discarded }

/-- LINK-STATUS's effect (R166): for the asking port, the set and count are those the reply head
copies. -/
def serveLinkStatus (p : PortId) (s : State) : State :=
  answerOk p
    (.linkStatus p (mapNth (fun _ r => portReport r) s.link.ports) s.link.fault.isSome) s

/-- LINK_STATUS (R166). -/
def execLinkStatus (f : Frame) (s : State) : Host.Outcome State Fault Refusal :=
  request f .linkStatus (serveLinkStatus f.port) s

/-! ### Port control -/

/-- The port a target number names. -/
def targetPort (target : Nat) : Option PortId :=
  if h : target < 6 then some ⟨target, h⟩ else none

/-- A port that goes down: it drops any partial frame and the reply it was sending; a request still
in service will not be answered (R167, R168). -/
def Port.down (r : Port) (state : PortState) (cycleEnd : Option Nat) : Port :=
  { r with
    state := state
    cycleEnd := cycleEnd
    receive := .hunting
    reply := none
    service :=
      match r.reply, r.service with
      | some _, _ => .idle
      | none, .idle => .idle
      | none, .inService kind tag _ => .inService kind tag true }

/-- A port goes down, and the asking port is answered. When the reply that is dropped is that of a
RESTART, the restart takes effect at once, and drops the asking request with the rest
(R18; notes/assumptions/19). -/
def takeDown (target : PortId) (state : PortState) (cycleEnd : Option Nat)
    (answered : State → State) (s : State) : State :=
  let r := s.port target
  let s := s.setPort target (r.down state cycleEnd)
  if r.reply.any (·.restarts) then restartEffect s else answered s

/-- PORT-PARK's effect (R167). -/
def servePortPark (p : PortId) (target : Nat) (s : State) : State :=
  match targetPort target with
  | none => refuse p .badField s
  | some t =>
    if t = p then refuse p .badField s
    else
      let before := (s.port t).state
      match before with
      | .active => takeDown t .parked none (answerOk p (.portMoved before .parked)) s
      | .cycling =>
        answerOk p (.portMoved before .parked)
          (s.setPort t { s.port t with state := .parked, cycleEnd := none })
      | .parked => answerOk p (.portMoved before .parked) s

/-- PORT_PARK (R167). -/
def execPortPark (f : Frame) (target : Nat) (s : State) : Host.Outcome State Fault Refusal :=
  request f .portPark (servePortPark f.port target) s

/-- A port that comes back: ACTIVE, with its receiver HUNTING (R167, R168). -/
def Port.up (r : Port) : Port :=
  match r.state with
  | .active => r
  | .parked | .cycling => { r with state := .active, cycleEnd := none, receive := .hunting }

/-- PORT-RELEASE's effect (R167). -/
def servePortRelease (p : PortId) (target : Nat) (s : State) : State :=
  match targetPort target with
  | none => refuse p .badField s
  | some t =>
    answerOk p (.portMoved (s.port t).state .active) (s.setPort t (s.port t).up)

/-- PORT_RELEASE (R167). -/
def execPortRelease (f : Frame) (target : Nat) (s : State) : Host.Outcome State Fault Refusal :=
  request f .portRelease (servePortRelease f.port target) s

/-- PORT-CYCLE's effect (R168). -/
def servePortCycle (p : PortId) (target : Nat) (s : State) : State :=
  match targetPort target with
  | none => refuse p .badField s
  | some t =>
    if t = p then refuse p .badField s
    else
      match (s.port t).state with
      | .cycling => refuse p .busy s
      | .active => takeDown t .cycling (some Config.cycleCycles) (answerOk p .empty) s
      | .parked =>
        answerOk p .empty
          (s.setPort t
            { s.port t with state := .cycling, cycleEnd := some Config.cycleCycles })

/-- PORT_CYCLE (R168). -/
def execPortCycle (f : Frame) (target : Nat) (s : State) : Host.Outcome State Fault Refusal :=
  request f .portCycle (servePortCycle f.port target) s

/-- PORT_CYCLE_END (R168). -/
def execPortCycleEnd (p : PortId) (s : State) : Host.Outcome State Fault Refusal :=
  event
    (fun s =>
      match (s.port p).state with
      | .cycling => s.setPort p (s.port p).up
      | .active | .parked => s)
    s

/-! ### The first-fault record -/

/-- READ-FAULTS's effect (R170). -/
def serveReadFaults (p : PortId) (s : State) : State :=
  answerOk p (.faults s.link.fault s.link.more) s

/-- READ_FAULTS (R170). -/
def execReadFaults (f : Frame) (s : State) : Host.Outcome State Fault Refusal :=
  request f .readFaults (serveReadFaults f.port) s

/-- The first-fault record made not valid, with the more flags clear (R170). -/
def clearFaultRecord (l : LinkInterface) : LinkInterface :=
  { l with fault := none, more := ⟨false, false, false⟩ }

/-- CLEAR-FAULTS's effect (R170): the reply carries the record and flags as they stood before. The rules
do not say whether the fault-valid flag of its head (R164) shows ATTN before the clear or after it: the
reply is formed after the clear, so the flag is clear (DESIGN CHOICE, unsafe, notes/assumptions/41). -/
def serveClearFaults (p : PortId) (s : State) : State :=
  answerOk p (.faults s.link.fault s.link.more) { s with link := clearFaultRecord s.link }

/-- CLEAR_FAULTS (R170). -/
def execClearFaults (f : Frame) (s : State) : Host.Outcome State Fault Refusal :=
  request f .clearFaults (serveClearFaults f.port) s

end Sys2Proof.Machine
end

