-- ==== Sys2Proof/Machine/Dispatch.lean ====
section
/-! DEFINITION. The meaning of each command of the opcode table. -/

namespace Sys2Proof.Machine

open Sys2Proof

/-- The effect of a command on everything but the queue of waiting commands. -/
def exec (i : Instr) (s : State) : Host.Outcome State Fault Refusal :=
  match i with
  | .powerOnReset straps retainOk => Sys2Proof.Machine.execPowerOnReset straps retainOk s
  | .resetNLow => Sys2Proof.Machine.execResetNLow s
  | .secondEvent bellsFirst => Sys2Proof.Machine.execSecondEvent bellsFirst s
  | .bellCountExpiry zone => Sys2Proof.Machine.execBellCountExpiry zone s
  | .pushAssert => Sys2Proof.Machine.execPushAssert s
  | .pushRelease => Sys2Proof.Machine.execPushRelease s
  | .pushLimitExpiry => Sys2Proof.Machine.execPushLimitExpiry s
  | .alarmAssert => Sys2Proof.Machine.execAlarmAssert s
  | .alarmRelease => Sys2Proof.Machine.execAlarmRelease s
  | .readTime frame => Sys2Proof.Machine.execReadTime frame s
  | .setTime frame time day weekdayBase => Sys2Proof.Machine.execSetTime frame time day weekdayBase s
  | .dayOpen frame => Sys2Proof.Machine.execDayOpen frame s
  | .dayClose frame => Sys2Proof.Machine.execDayClose frame s
  | .restart frame => Sys2Proof.Machine.execRestart frame s
  | .restartEffect => Sys2Proof.Machine.execRestartEffect s
  | .openWalkVisit => Sys2Proof.Machine.execOpenWalkVisit s
  | .openWalkComplete order => Sys2Proof.Machine.execOpenWalkComplete order s
  | .closeWalkVisit => Sys2Proof.Machine.execCloseWalkVisit s
  | .closeWalkComplete order => Sys2Proof.Machine.execCloseWalkComplete order s
  | .writePlan frame req => Sys2Proof.Machine.execWritePlan frame req s
  | .writeCohorts frame records => Sys2Proof.Machine.execWriteCohorts frame records s
  | .writeSettings frame req => Sys2Proof.Machine.execWriteSettings frame req s
  | .readPlan frame selector start => Sys2Proof.Machine.execReadPlan frame selector start s
  | .shift frame req => Sys2Proof.Machine.execShift frame req s
  | .recomputePassComplete plan => Sys2Proof.Machine.execRecomputePassComplete plan s
  | .swap => Sys2Proof.Machine.execSwap s
  | .readTimetable frame plan start => Sys2Proof.Machine.execReadTimetable frame plan start s
  | .writeQuiet frame number window => Sys2Proof.Machine.execWriteQuiet frame number window s
  | .ring frame zones pattern => Sys2Proof.Machine.execRing frame zones pattern s
  | .writePupil frame req => Sys2Proof.Machine.execWritePupil frame req s
  | .clearPupil frame slot ref => Sys2Proof.Machine.execClearPupil frame slot ref s
  | .writeWindow frame number window => Sys2Proof.Machine.execWriteWindow frame number window s
  | .readPupil frame selector => Sys2Proof.Machine.execReadPupil frame selector s
  | .mark frame req => Sys2Proof.Machine.execMark frame req s
  | .groupMark frame req => Sys2Proof.Machine.execGroupMark frame req s
  | .sessionSweepVisit => Sys2Proof.Machine.execSessionSweepVisit s
  | .routeSweepVisit => Sys2Proof.Machine.execRouteSweepVisit s
  | .groupWalkVisit => Sys2Proof.Machine.execGroupWalkVisit s
  | .walkComplete => Sys2Proof.Machine.execWalkComplete s
  | .readRegister frame selector => Sys2Proof.Machine.execReadRegister frame selector s
  | .readChanges frame => Sys2Proof.Machine.execReadChanges frame s
  | .signIn frame req => Sys2Proof.Machine.execSignIn frame req s
  | .signOut frame req => Sys2Proof.Machine.execSignOut frame req s
  | .routeHold frame req => Sys2Proof.Machine.execRouteHold frame req s
  | .routeHoldExpiry route => Sys2Proof.Machine.execRouteHoldExpiry route s
  | .notice frame req => Sys2Proof.Machine.execNotice frame req s
  | .raiseAlert => Sys2Proof.Machine.execRaiseAlert s
  | .leaveUnexplained => Sys2Proof.Machine.execLeaveUnexplained s
  | .alertStateReport => Sys2Proof.Machine.execAlertStateReport s
  | .takeMessage frame => Sys2Proof.Machine.execTakeMessage frame s
  | .messageResult frame tag outcome => Sys2Proof.Machine.execMessageResult frame tag outcome s
  | .handoverTimeout tag => Sys2Proof.Machine.execHandoverTimeout tag s
  | .readStanding frame start => Sys2Proof.Machine.execReadStanding frame start s
  | .cancelStanding frame ref => Sys2Proof.Machine.execCancelStanding frame ref s
  | .callListAdd caller => Sys2Proof.Machine.execCallListAdd caller s
  | .readCalls frame start => Sys2Proof.Machine.execReadCalls frame start s
  | .clearCall frame slot => Sys2Proof.Machine.execClearCall frame slot s
  | .confirmNotice frame slot conflictFirst => Sys2Proof.Machine.execConfirmNotice frame slot conflictFirst s
  | .latenessAccrual => Sys2Proof.Machine.execLatenessAccrual s
  | .openMinutesAccrual => Sys2Proof.Machine.execOpenMinutesAccrual s
  | .fold => Sys2Proof.Machine.execFold s
  | .readTotals frame selector => Sys2Proof.Machine.execReadTotals frame selector s
  | .termReset frame => Sys2Proof.Machine.execTermReset frame s
  | .rollBuildVisit => Sys2Proof.Machine.execRollBuildVisit s
  | .rollBuildComplete => Sys2Proof.Machine.execRollBuildComplete s
  | .presenceChange => Sys2Proof.Machine.execPresenceChange s
  | .readRoll frame start => Sys2Proof.Machine.execReadRoll frame start s
  | .account frame req => Sys2Proof.Machine.execAccount frame req s
  | .rollClose frame => Sys2Proof.Machine.execRollClose frame s
  | .frameHeaderFault port header => Sys2Proof.Machine.execFrameHeaderFault port header s
  | .frameCheckFault port octets crc => Sys2Proof.Machine.execFrameCheckFault port octets crc s
  | .receiveGapTimeout port => Sys2Proof.Machine.execReceiveGapTimeout port s
  | .frameOverlap port => Sys2Proof.Machine.execFrameOverlap port s
  | .unknownKindFrame port kind tag => Sys2Proof.Machine.execUnknownKindFrame port kind tag s
  | .replyComplete port => Sys2Proof.Machine.execReplyComplete port s
  | .setReplyLimit frame octets => Sys2Proof.Machine.execSetReplyLimit frame octets s
  | .linkStatus frame => Sys2Proof.Machine.execLinkStatus frame s
  | .portPark frame target => Sys2Proof.Machine.execPortPark frame target s
  | .portRelease frame target => Sys2Proof.Machine.execPortRelease frame target s
  | .portCycle frame target => Sys2Proof.Machine.execPortCycle frame target s
  | .portCycleEnd port => Sys2Proof.Machine.execPortCycleEnd port s
  | .readFaults frame => Sys2Proof.Machine.execReadFaults frame s
  | .clearFaults frame => Sys2Proof.Machine.execClearFaults frame s
  | .syncOctet port => Sys2Proof.Machine.execSyncOctet port s

end Sys2Proof.Machine
end

