-- ==== Sys2Proof/Machine/Layout.lean ====
section
/-! DEFINITION. The octets of a reply as it leaves a port, for the replies R171 lays out: the frame,
the reply head, the sign-in reply and the hand-over record. -/

namespace Sys2Proof.Machine

open Sys2Proof

/-- A number in two octets, high octet first (R171). -/
def octets2 (n : Nat) : List Octet := [BitVec.ofNat 8 (n / 256), BitVec.ofNat 8 n]

/-- A number in three octets, high octet first. -/
def octets3 (n : Nat) : List Octet := BitVec.ofNat 8 (n / 65536) :: octets2 n

/-- A number in four octets, high octet first. -/
def octets4 (n : Nat) : List Octet := BitVec.ofNat 8 (n / 16777216) :: octets3 n

/-- Some flags as the low bits of an octet, bit 0 first. -/
def flagOctet : List Bool → Octet
  | [] => 0
  | b :: rest => (flagOctet rest <<< 1) ||| (if b then 1 else 0)

/-- The code of a mark (R171). -/
def markCode : Mark → Octet
  | .none => 0 | .blank => 1 | .present => 2 | .notSeen => 3 | .late => 4 | .lateClosed => 5
  | .excusedLate => 6 | .notified => 7 | .authorised => 8 | .offsite => 9 | .unexplained => 10

/-- A session set in one octet (R171). -/
def sessionsOctet (set : SessionSet) : Octet := flagOctet [set.am, set.pm]

/-- A time of day with its day number, in five octets; an absent time is 0xFFFFFF (R171). -/
def stampOctets : Option Stamp → List Octet
  | some t => octets3 t.time ++ octets2 t.day.toNat
  | none => [0xFF, 0xFF, 0xFF] ++ octets2 Config.absentDay.toNat

/-- The code of a status (R164). -/
def statusCode : Status → Octet
  | .ok => 0 | .held => 1 | .refusedRole => 2 | .badField => 3 | .notFound => 4 | .duplicate => 5
  | .full => 6 | .busy => 7 | .dayClosed => 8 | .registerClosed => 9 | .stale => 10
  | .noClock => 11 | .unknownKind => 12 | .notScheduled => 13

/-- The code of a fault kind (first-fault record table). -/
def faultCode : FaultKind → Octet
  | .unknownCard => 1 | .cardMismatch => 2 | .cardRetry => 3 | .queueFull => 4
  | .callListFull => 5 | .standingFull => 6 | .trailOverrun => 7 | .gatewayTimeout => 8

/-- The reply head, payload octets 0 to 3 (R171). -/
def headOctets (h : ReplyHead) : List Octet :=
  [statusCode h.status,
   flagOctet
     [h.faults.header, h.faults.length, h.faults.check, h.faults.truncated, h.faults.overlap],
   BitVec.ofNat 8 h.discarded,
   flagOctet [h.adjusted, h.faultValid]]

/-- The class octet of a slip (R171). -/
def classCode : ArrivalClass → Octet
  | .present => 0 | .late => 1 | .lateClosed => 2 | .excusedLate => 3 | .returned => 4
  | .afterHours => 5 | .notScheduled => 6

/-- The outcome octet of a slip (R171). -/
def outcomeCode : Option Decision → Octet
  | some .applied => 0 | some .repeated => 1 | some .held => 2 | some .conflict => 2
  | some .notScheduled => 3 | none => 0xFF

/-- The target session bits of a slip (R171). -/
def targetBits : Option Session → List Bool
  | none => [false, false]
  | some .am => [true, false]
  | some .pm => [false, true]

/-- The route of a slip's excuse with its expiry; route 0 when there is none (R171). -/
def excuseOctets : Option Excuse → List Octet
  | some (.route route expiry) => BitVec.ofNat 8 route :: stampOctets (some expiry)
  | some .notice => 0 :: stampOctets none
  | none => 0 :: stampOctets none

/-- The sign-in reply, payload octets 4 to 32 (R171). -/
def slipOctets (r : Slip) : List Octet :=
  octets2 r.slot ++ octets4 r.ref.toNat
    ++ [BitVec.ofNat 8 r.cohort, BitVec.ofNat 8 r.tutor, classCode r.arrival,
        flagOctet
          (targetBits r.target
            ++ [r.confirmed, r.accrual, r.withheld, decide (r.excuse = some .notice)])]
    ++ stampOctets (some r.stamp)
    ++ octets2 ((r.late.map (·.threshold)).getD 0xFFFF)
    ++ octets2 ((r.late.map (·.close)).getD 0xFFFF)
    ++ [BitVec.ofNat 8 ((r.late.map (·.minutes)).getD 0)]
    ++ excuseOctets r.excuse
    ++ [outcomeCode r.outcome, markCode r.am, markCode r.pm]

/-- The sign-in reply of a DUPLICATE, payload octets 4 to 32 (R107, R171). -/
def earlierOctets (r : EarlierSlip) : List Octet :=
  octets2 r.slot ++ octets4 r.ref.toNat
    ++ [BitVec.ofNat 8 r.cohort, BitVec.ofNat 8 r.tutor, 0xFF,
        flagOctet [false, false, r.confirmed, false, false, false]]
    ++ stampOctets (some r.stamp) ++ octets2 0xFFFF ++ octets2 0xFFFF
    ++ [BitVec.ofNat 8 (r.minutesLate.getD 0)]
    ++ excuseOctets none ++ [0xFF, markCode r.am, markCode r.pm]

/-- The hand-over record, payload octets 4 onward (R171). -/
def handOverOctets (r : HandOver) : List Octet :=
  0 :: octets2 r.tag
    ++ [match r.kind with | .alert => (0 : Octet) | .correction => 1]
    ++ octets4 r.ref.toNat ++ octets2 r.contact
    ++ [match r.channel with | .text => (0 : Octet) | .voice => 1, sessionsOctet r.sessions,
        BitVec.ofNat 8 r.attempt]
    ++ stampOctets r.arrival

/-- The payload of a reply after its head, where R171 lays it out. -/
def bodyOctets : ReplyBody → Option (List Octet)
  | .empty => some []
  | .slip r => some (slipOctets r)
  | .earlierSlip r => some (earlierOctets r)
  | .nothingToSend => some [1]
  | .handOver r => some (handOverOctets r)
  | _ => none

/-- The octets of a frame with a payload (R161). -/
def frameOctets (kind tag : Octet) (payload : List Octet) : List Octet :=
  let length := BitVec.ofNat 8 payload.length
  let body := [kind, tag, length, headerCheck kind tag length] ++ payload
  0x5A :: body ++ octets2 (frameCrc body).toNat

/-- The octets of a reply as they leave its port, where R171 lays its payload out (R161). -/
def replyOctets (r : Reply) : Option (List Octet) :=
  (bodyOctets r.body).map fun body => frameOctets r.kind r.tag (headOctets r.head ++ body)

end Sys2Proof.Machine
end

