-- ==== Sys2Proof/Safety.lean ====
section
/-! DEFINITION. The terms the statements use: when a request meets a port that can take it, the state
a reply leaves, and what holds of the state in every run. -/

namespace Sys2Proof

/-! ### Commands that are requests -/

/-- The frame and the kind of a command that is a request (R163, Kinds and roles); none for an event of
the part. -/
def Instr.asRequest : Instr → Option (Frame × Kind)
  | .readTime f => some (f, .readTime)
  | .setTime f _ _ _ => some (f, .setTime)
  | .dayOpen f => some (f, .dayOpen)
  | .dayClose f => some (f, .dayClose)
  | .restart f => some (f, .restart)
  | .writePlan f _ => some (f, .writePlan)
  | .writeCohorts f _ => some (f, .writeCohorts)
  | .writeSettings f _ => some (f, .writeSettings)
  | .readPlan f _ _ => some (f, .readPlan)
  | .shift f _ => some (f, .shift)
  | .readTimetable f _ _ => some (f, .readTimetable)
  | .writeQuiet f _ _ => some (f, .writeQuiet)
  | .ring f _ _ => some (f, .ring)
  | .writePupil f _ => some (f, .writePupil)
  | .clearPupil f _ _ => some (f, .clearPupil)
  | .writeWindow f _ _ => some (f, .writeWindow)
  | .readPupil f _ => some (f, .readPupil)
  | .mark f _ => some (f, .mark)
  | .groupMark f _ => some (f, .groupMark)
  | .readRegister f _ => some (f, .readRegister)
  | .readChanges f => some (f, .readChanges)
  | .signIn f _ => some (f, .signIn)
  | .signOut f _ => some (f, .signOut)
  | .routeHold f _ => some (f, .routeHold)
  | .notice f _ => some (f, .notice)
  | .takeMessage f => some (f, .takeMessage)
  | .messageResult f _ _ => some (f, .messageResult)
  | .readStanding f _ => some (f, .readStanding)
  | .cancelStanding f _ => some (f, .cancelStanding)
  | .readCalls f _ => some (f, .readCalls)
  | .clearCall f _ => some (f, .clearCall)
  | .confirmNotice f _ _ => some (f, .confirmNotice)
  | .readTotals f _ => some (f, .readTotals)
  | .termReset f => some (f, .termReset)
  | .readRoll f _ => some (f, .readRoll)
  | .account f _ => some (f, .account)
  | .rollClose f => some (f, .rollClose)
  | .setReplyLimit f _ => some (f, .setReplyLimit)
  | .linkStatus f => some (f, .linkStatus)
  | .portPark f _ => some (f, .portPark)
  | .portRelease f _ => some (f, .portRelease)
  | .portCycle f _ => some (f, .portCycle)
  | .readFaults f => some (f, .readFaults)
  | .clearFaults f => some (f, .clearFaults)
  | .powerOnReset _ _ | .resetNLow | .secondEvent _ | .bellCountExpiry _ | .pushAssert
  | .pushRelease | .pushLimitExpiry | .alarmAssert | .alarmRelease | .restartEffect
  | .openWalkVisit | .openWalkComplete _ | .closeWalkVisit | .closeWalkComplete _
  | .recomputePassComplete _ | .swap | .sessionSweepVisit | .routeSweepVisit | .groupWalkVisit
  | .walkComplete | .routeHoldExpiry _ | .raiseAlert | .leaveUnexplained | .alertStateReport
  | .handoverTimeout _ | .callListAdd _ | .latenessAccrual | .openMinutesAccrual | .fold
  | .rollBuildVisit | .rollBuildComplete | .presenceChange | .frameHeaderFault _ _
  | .frameCheckFault _ _ _ | .receiveGapTimeout _ | .frameOverlap _ | .unknownKindFrame _ _ _
  | .replyComplete _ | .portCycleEnd _ | .syncOctet _ => none

end Sys2Proof

namespace Sys2Proof.Machine

open Sys2Proof

/-- The command that carries a request that can be held (R13). -/
def Holdable.command (f : Frame) : Holdable → Instr
  | .mark r => .mark f r
  | .groupMark r => .groupMark f r
  | .signIn r => .signIn f r
  | .signOut r => .signOut f r
  | .routeHold r => .routeHold f r
  | .shift r => .shift f r
  | .notice r => .notice f r
  | .confirmNotice slot conflictFirst => .confirmNotice f slot conflictFirst
  | .readRegister selector => .readRegister f selector
  | .readChanges => .readChanges f
  | .readTimetable plan start => .readTimetable f plan start

/-! ### Requests and their replies -/

/-- A frame that its port takes and passes to the owner (R163): RESET_N is high, the port is ACTIVE
and IDLE, its role may send the request, and its form suits. -/
def Ready (s : State) (f : Frame) (k : Kind) : Prop :=
  s.lines.resetN = true ∧ (s.port f.port).state = .active ∧ (s.port f.port).service = .idle
    ∧ k.allows (s.port f.port).role = true ∧ f.suits = true

/-- The port of a frame once the frame is taken: IN_SERVICE, its receiver HUNTING (R163). -/
def serving (f : Frame) (k : Kind) (r : Port) : Port :=
  { r with service := .inService k.octet f.tag false, receive := .hunting }

/-- The state a request leaves whose reply is held: its port is IN_SERVICE (R163). -/
def State.serving (f : Frame) (k : Kind) (s : State) : State :=
  s.setPort f.port (Machine.serving f k (s.port f.port))

/-- The port of a frame once it is answered: it sends the reply, whose head copies the link fault set
and the discarded count, which are then emptied (R164). -/
def replying (f : Frame) (k : Kind) (status : Status) (adjusted : Bool) (body : ReplyBody)
    (faultValid : Bool) (r : Port) : Port :=
  { serving f k r with
    faults := .none
    discarded := 0
    reply := some ⟨k.octet ||| 0x80, f.tag, ⟨status, r.faults, r.discarded, adjusted, faultValid⟩,
      body⟩ }

/-- The state a request leaves that is answered at once: `s` but for the port of its frame. -/
def State.replied (f : Frame) (k : Kind) (status : Status) (adjusted : Bool) (body : ReplyBody)
    (s : State) : State :=
  s.setPort f.port (replying f k status adjusted body s.link.fault.isSome (s.port f.port))

/-- A held request is taken as the command that carries it is taken on arrival: from the state in which
its port serves the frame, it leaves what the command leaves (R11, R15, R46). -/
def HeldActsAsItsCommand : Prop :=
  ∀ (h : Held) (f : Frame) (k : Kind) (w : State), f.port = h.port →
    (h.request.command f).asRequest = some (f, k) → Ready w f k →
    exec (h.request.command f) w = .next (serveHeld h (State.serving f k w))

/-- The items a list reply keeps of those asked for, under a reply limit and after fixed fields of some
octets (R165): a prefix, not empty unless nothing was asked for; within the limit unless it is one item
alone, and within 240 octets all the same; and the next item would pass the limit. -/
def FitsReply {α : Type} (limit fixed : Nat) (items kept : List α) : Prop :=
  ∃ left : List α, items = kept ++ left
    ∧ (items ≠ [] → kept ≠ [])
    ∧ (listOctets fixed kept ≤ limit ∨ kept.length ≤ 1)
    ∧ (limit ≤ 240 → listOctets fixed kept ≤ 240)
    ∧ ∀ x rest, left = x :: rest → limit < listOctets fixed (kept ++ [x])

/-- A part of a list read by index: what fits from the start index on, and the index of the first item
not returned (R29, R48, R130, R141, R158, R165). -/
def ReadFrom {α : Type} (limit fixed start : Nat) (items : List α) (part : ListPart α) : Prop :=
  FitsReply limit fixed (items.drop start) part.items
    ∧ part.next = (if start + part.items.length < items.length
        then some (start + part.items.length) else none)

/-- A part of a list read by slot: what fits, and the slot after the last one returned, absent when no
slot of the list remains (R76, R95, R152, R165). -/
def ReadBySlot {α : Type} (limit fixed : Nat) (slot : α → Nat) (items : List α)
    (part : ListPart α) : Prop :=
  FitsReply limit fixed items part.items
    ∧ (part.items.length = items.length → part.next = none)
    ∧ ∀ v, part.items.length < items.length → part.items.getLast? = some v →
        part.next = some (slot v + 1)

/-! ### What every step keeps -/

/-- The clock's fields are in their ranges (R1). -/
def Clock.inRange (c : Clock) : Prop := c.time < 86400 ∧ c.subSecond < 32768

/-- An ENROLLED record's fields are in their ranges (R62). -/
def Pupil.inRange (r : Pupil) : Prop :=
  r.ref ≠ 0 ∧ r.card ≤ 16777215 ∧ r.cohort ≤ 7 ∧ r.tutor ≤ 63 ∧ r.route ≤ 31
    ∧ r.contacts.length ≤ 3 ∧ ∀ c ∈ r.contacts, 1 ≤ c.contact ∧ c.contact ≤ 65535

/-- What the Pupil Table holds (R62, R64): canonical, its records in range, and no two of them with
one pupil reference or one nonzero card. -/
def PupilTable.sound (t : PupilTable) : Prop :=
  tableWf none Config.slots t.pupils = true
    ∧ (∀ k r, (k, some r) ∈ t.pupils → r.inRange)
    ∧ (∀ k l r q, (k, some r) ∈ t.pupils → (l, some q) ∈ t.pupils → r.ref = q.ref → k = l)
    ∧ ∀ k l r q, (k, some r) ∈ t.pupils → (l, some q) ∈ t.pupils → r.card ≠ 0 → r.card = q.card →
      k = l

/-- An entry of a valid plan (R20, R22). -/
def Entry.sound (e : Entry) : Prop :=
  1 ≤ e.nominal ∧ e.nominal ≤ 180 ∧ 1 ≤ e.floor ∧ e.floor ≤ e.nominal
    ∧ (e.compressible = false → e.floor = e.nominal)
    ∧ (e.kind = .registration → e.tag.isSome = true ∧ ∃ g, e.grace = some g ∧ g ≤ 60)
    ∧ (e.kind ≠ .registration → e.tag = none ∧ e.grace = none)

/-- The places of a session's REGISTRATION entries in a list of entries. -/
def registrationPlaces (entries : List Entry) (session : Session) : List Nat :=
  (entries.zipIdx.filter fun e => e.1.registers session).map (·.2)

/-- A valid plan (R19, R22). -/
def PlanBody.sound (b : PlanBody) : Prop :=
  300 ≤ b.start ∧ b.start ≤ 900 ∧ 1 ≤ b.entries.length ∧ b.entries.length ≤ 24
    ∧ (∀ e ∈ b.entries, e.sound) ∧ b.nominalEnd ≤ 1380
    ∧ (registrationPlaces b.entries .am).length ≤ 1
    ∧ (registrationPlaces b.entries .pm).length ≤ 1
    ∧ ∀ j ∈ registrationPlaces b.entries .pm, ∃ i ∈ registrationPlaces b.entries .am, i < j

/-- A day settings record in range (R27). -/
def Settings.sound (r : Settings) : Prop :=
  300 ≤ r.autoOpen ∧ r.autoOpen ≤ 720 ∧ 900 ≤ r.autoClose ∧ r.autoClose ≤ 1380
    ∧ r.weekdayBase ≤ 6 ∧ 1 ≤ r.pushLength ∧ r.pushLength ≤ 30 ∧ r.concern ≤ 255

/-- What the Plan Store holds (R19, R22, R23, R27). -/
def PlanStore.sound (t : PlanStore) : Prop :=
  (∀ n : Fin 8, t.plans[n].revision ≤ 255 ∧ ∀ b, t.plans[n].body = some b → b.sound)
    ∧ (∀ c : Fin 8, (∀ d : Fin 7, t.cohorts[c].weekdays[d] ≤ 8)
        ∧ ∀ n, t.cohorts[c].override = .plan n → 1 ≤ n ∧ n ≤ 8)
    ∧ t.settings.sound

/-- The slot tables in their canonical form, and the amendment list within the slots. The Pupil Table's
form is part of `PupilTable.sound`. -/
def State.canonical (s : State) : Prop :=
  tableWf noRecord Config.slots s.register.records = true
    ∧ tableWf none 32 s.arrivals.holds = true
    ∧ tableWf zeroAccumulator Config.slots s.totals.records = true
    ∧ ∀ a ∈ s.register.amendments, a.slot < Config.slots

/-- Entries laid one after another from a start, begun entries first, each length between its floor
and its nominal length (R43). -/
def laidFrom : Nat → List EffEntry → Prop
  | _, [] => True
  | start, e :: rest =>
    e.start = start ∧ 1 ≤ e.entry.floor ∧ e.entry.floor ≤ e.length
      ∧ e.length ≤ e.entry.nominal ∧ (e.begun = false → ∀ x ∈ rest, x.begun = false)
      ∧ laidFrom (start + e.length) rest

/-- An effective timetable as R43 gives it: its entries laid from its first start, and its effective end
the end of the last. -/
def PlanTable.laid (t : PlanTable) : Prop :=
  ∃ start, t.entries ≠ [] ∧ laidFrom start t.entries
    ∧ t.effEnd = start + (t.entries.map (·.length)).sum

/-- What the Timetable Engine holds (R31, R43, R45): one table a plan, and every table laid out, those that
a recompute in flight starts from and works out among them, each of the plan of its pass and of as many
entries as that plan's committed table. -/
def Timetable.sound (t : Timetable) : Prop :=
  (t.tables.map (·.plan)).Nodup
    ∧ (∀ u ∈ t.tables, u.laid)
    ∧ ∀ c, t.recompute = some c → ∀ x ∈ c.passes,
        x.base.laid ∧ x.base.plan = x.plan
          ∧ (∀ u ∈ t.tables, u.plan = x.plan → u.entries.length = x.base.entries.length)
          ∧ ∀ y, x.result = some y → y.table.laid ∧ y.table.plan = x.plan
              ∧ y.table.entries.length = x.base.entries.length

/-- A recompute is in flight in OPEN alone, and no close walk is in hand then (R13, R14, R44, R47). -/
def State.recomputesInOpen (s : State) : Prop :=
  (s.timetable.recompute ≠ none → s.day.state = .open)
    ∧ (s.day.state = .open → s.register.walker.hand ≠ some .closeWalk)


/-- The sessions of the plan for today of the pupil a slot holds, none for an EMPTY slot (R62, R96). -/
def slotSessions (s : State) (slot : Nat) : SessionSet :=
  match pupilAt s slot with
  | some p => sessionsToday s p.cohort
  | none => ⟨false, false⟩

/-- The state once the retry report of a SIGN-IN by card, if it carries one, has been passed to the Link
Interface (R99, R169). -/
def State.afterRetry (f : Frame) (r : SignInReq) (s : State) : State :=
  match r with
  | .byCard card true => reportFault ⟨.cardRetry, some f.port, some (.card card), now s⟩ s
  | .byCard _ false | .byReference _ => s

/-- The pupil a SIGN-IN identifies, with whether the identity is confirmed: by a card that matches, from
a KIOSK, or by a reference that is found, from the DESK (R99, R100). -/
def signInNames (s : State) (f : Frame) (r : SignInReq) (slot : Nat) (p : Pupil)
    (confirmed : Bool) : Prop :=
  ((s.port f.port).role = .kiosk ∧ confirmed = true ∧ ∃ card window, (∃ retry, r = .byCard card retry)
      ∧ 1 ≤ card ∧ card ≤ 16777215 ∧ cardMatch s card = .matched slot window p)
    ∨ ((s.port f.port).role = .desk ∧ confirmed = false ∧ ∃ ref, r = .byReference ref
      ∧ lookup s ref = some (slot, p))

/-- A session of an outbound entry that is still UNEXPLAINED (R131). -/
def sessionOwed (s : State) (e : Outbound) (x : Session) : Prop :=
  (e.sessions.has x = true ∨ e.followOn.has x = true) ∧ markOf s e.slot x = .unexplained

/-- An entry that still has something to send home: a CORRECTION, or an alert with a session still
UNEXPLAINED (R131, R138, R139). -/
def StillOwed (s : State) (e : Outbound) : Prop :=
  e.kind = .correction ∨ sessionOwed s e .am ∨ sessionOwed s e .pm

/-- What the amendment list, the lost count, the trail gaps and the link hold once an amendment is
appended (R92, R93): the entry stands at the back; with 256 entries the oldest goes first, the trail gap
of its session is set, the lost count goes up, staying at 65535, and TRAIL_OVERRUN is reported. -/
def AmendmentAppended (s t : State) (a : Amendment) : Prop :=
  (s.register.amendments.length < 256 →
    t.register.amendments = s.register.amendments ++ [a]
      ∧ t.register.lost = s.register.lost ∧ t.link = s.link
      ∧ ∀ k y, ((recordAt t k).session y).trailGap = ((recordAt s k).session y).trailGap)
  ∧ ∀ old rest, s.register.amendments = old :: rest → 256 ≤ s.register.amendments.length →
    t.register.amendments = rest ++ [a]
      ∧ t.register.lost = min 65535 (s.register.lost + 1)
      ∧ t.link = (reportFault ⟨.trailOverrun, none, some (.slot old.slot), now s⟩ s).link
      ∧ ((recordAt t old.slot).session old.session).trailGap = true
      ∧ ∀ k y, k ≠ old.slot ∨ y ≠ old.session →
          ((recordAt t k).session y).trailGap = ((recordAt s k).session y).trailGap

/-- Amendments appended one after another, each as R92 and R93 give it, the clock and the Plan Store
standing. -/
def AmendmentsAppended : List Amendment → State → State → Prop
  | [], s, t =>
    t.register.amendments = s.register.amendments ∧ t.register.lost = s.register.lost
      ∧ t.link = s.link
      ∧ ∀ k y, ((recordAt t k).session y).trailGap = ((recordAt s k).session y).trailGap
  | a :: rest, s, t =>
    ∃ u : State, u.clock = s.clock ∧ u.store = s.store ∧ AmendmentAppended s u a
      ∧ AmendmentsAppended rest u t

/-- Two records differ in their trail gap flags alone, which an append to a full amendment list sets
(R93). -/
def RegisterRecord.sameButGap (a b : RegisterRecord) : Prop :=
  b = { a with am := { a.am with trailGap := b.am.trailGap }
               pm := { a.pm with trailGap := b.pm.trailGap } }

/-- What a visit of a walk to a slot may change (R118): the register's records, amendments and group
outcome, what the Day Register tells its neighbours and the first-fault record; the cursor moves on. -/
def Visited (s t : State) (slot : Nat) : Prop :=
  t = { s with
    register := { s.register with
      records := t.register.records, amendments := t.register.amendments, lost := t.register.lost,
      group := t.register.group, walker := { s.register.walker with cursor := slot + 1 } }
    wires := { s.wires with
      toMessages := t.wires.toMessages, toAccumulators := t.wires.toAccumulators,
      toRoll := t.wires.toRoll }
    link := { s.link with fault := t.link.fault, more := t.link.more } }

/-- Some sessions of a slot, AM before PM, take a mark by applied changes of a source whose proposals
carry no notice (R82 to R85, R92): each takes the mark, the source, the stamp and the unexplained-since,
and its expected-late flag and its notice stay; each old mark that was not BLANK leaves its amendment;
and every other slot's record stays, but for the trail gap of a session whose amendment is lost. -/
def MarksTaken (s t : State) (slot : Nat) (sessions : List Session) (mark : Mark) (source : Source)
    (stamp : Stamp) (since : Option Stamp) : Prop :=
  (∀ y ∈ sessions, (recordAt t slot).session y
    = { (recordAt s slot).session y with
        mark := mark, lastSource := some source, lastChange := some stamp, since := since
        notice := if mark = .notified then none else ((recordAt s slot).session y).notice
        trailGap := ((recordAt t slot).session y).trailGap })
  ∧ (∀ k, k ≠ slot → (recordAt s k).sameButGap (recordAt t k))
  ∧ AmendmentsAppended
    ((sessions.filter fun y => markOf s slot y != .blank).map fun y =>
      ⟨slot, y, markOf s slot y, mark, source, stamp⟩) s t

/-- The open minutes the Day Register passes for the sessions of a slot that are UNEXPLAINED with their
unexplained-since present, up to a stamp (R85, R97). -/
def openMinutesOf (s : State) (slot : Nat) (ref : PupilRef) (sessions : List Session)
    (stamp : Stamp) : List ToAccumulators :=
  (sessions.filter fun y => markOf s slot y == .unexplained).filterMap fun y =>
    ((recordAt s slot).session y).since.map fun since =>
      .openMinutes slot ref (secondsBetween since stamp / 60)

/-- The sessions a SIGN-OUT proposes AUTHORISED for, AM before PM (R113): those of the plan for today
whose mark is not NONE and whose registration entry has not begun. -/
def signOutSessions (s : State) (slot : Nat) (today : PlanToday) : List Session :=
  [Session.am, .pm].filter fun y =>
    today.sessions.has y && decide (markOf s slot y ≠ .none)
      && (tableOf s today.plan).all fun u => !u.sessionBegun y

/-- The tables of an opening (R32): in ascending plan order, the table built from nominal for each
plan that some cohort has. -/
def TablesOf (store : PlanStore) (plans : Vector (Option Nat) 8) (tables : List PlanTable) : Prop :=
  (tables.map (·.plan)).Pairwise (· < ·)
    ∧ (∀ (c : Fin 8) plan b, plans[c] = some plan → planBody store plan = some b →
        buildTable plan b ∈ tables)
    ∧ ∀ t ∈ tables, ∃ (c : Fin 8) (b : PlanBody), plans[c] = some t.plan
        ∧ planBody store t.plan = some b ∧ t = buildTable t.plan b

/-- What the reply to a SHIFT carries at the swap (R38, R46): the adjusted flag when the clamping, a
settled plan or the last pass of a plan set it; in plan order the figures of the settled plans and of the
last pass of each plan that joined, and of each plan once. -/
def SwapReplies (c : Recompute) (adjusted : Bool) (figures : List ShiftFigures) : Prop :=
  (adjusted = true ↔ c.adjusted = true
      ∨ ∃ x ∈ c.passes, ∃ y, x.result = some y ∧ y.reduced = true)
    ∧ figures.Pairwise (fun a b => a.plan < b.plan)
    ∧ (∀ f ∈ figures, f ∈ c.settled ∨ ∃ x ∈ c.passes, ∃ y, x.result = some y ∧ f = y.figures)
    ∧ ((∀ f ∈ c.settled, ∀ g ∈ c.settled, f.plan = g.plan → f = g) →
        (∀ x ∈ c.passes, ∀ y, x.result = some y → y.figures.plan = x.plan
          ∧ 1 ≤ x.plan ∧ x.plan ≤ 8 ∧ ∀ f ∈ c.settled, f.plan ≠ x.plan) →
        (∀ f ∈ c.settled, 1 ≤ f.plan ∧ f.plan ≤ 8) →
        (c.passes.map (·.plan)).Nodup →
        (∀ f ∈ c.settled, f ∈ figures)
          ∧ ∀ x ∈ c.passes, ∀ y, x.result = some y → y.figures ∈ figures)

/-- The order in which the walker takes what waits (R117): the earlier due stamp first; of equal ones a
session sweep before the route sweep before the group mark, the lower plan first, AM before PM. -/
def WalkOrder (a b : WalkItem) : Prop :=
  0 < stampDiff b.due a.due
    ∨ stampDiff b.due a.due = 0
      ∧ ((∃ i j, a = .session i ∧ b = .session j
            ∧ (i.plan < j.plan ∨ i.plan = j.plan ∧ i.session = .am ∧ j.session = .pm))
        ∨ (∃ i, a = .session i ∧ ∀ j, b ≠ .session j)
        ∨ ∃ i j, a = .route i ∧ b = .group j)

/-- Of items that wait, the one that goes before every other is the one taken (R117). Plans are 1 to
8. -/
def TheFirstItemIsTaken : Prop :=
  ∀ (items : List WalkItem) (i : WalkItem), i ∈ items →
    (∀ x, .session x ∈ items → x.plan ≤ 8) →
    (∀ x ∈ items, x = i ∨ (WalkOrder i x ∧ ¬ WalkOrder x i)) →
    firstBy WalkItem.before items = some i

/-- The Day Register once the walker has taken a waiting item (R117): the item leaves the queue and is
the walk in hand, at slot 0; a group mark's outcome state becomes RUNNING (R90). -/
def TakesItem (r q : DayRegister) (i : WalkItem) : Prop :=
  (∀ x, i = .session x → q = { r with walker := { r.walker with
      hand := some (.item i), cursor := 0, sessions := r.walker.sessions.erase x } })
  ∧ (∀ x, i = .route x → q = { r with walker := { r.walker with
      hand := some (.item i), cursor := 0, route := none } })
  ∧ ∀ x, i = .group x → q = { r with
      walker := { r.walker with hand := some (.item i), cursor := 0, group := none }
      group := { r.group with state := .running } }

/-- The service order of the QUEUED entries (R131): every CORRECTION before every alert; within a class
the earlier queued time first, and of equal ones the lower place. -/
def ServiceOrder (a b : Outbound) : Prop :=
  (a.kind = .correction ∧ b.kind = .alert)
    ∨ a.kind = b.kind
      ∧ (0 < stampDiff b.queuedTime a.queuedTime
        ∨ stampDiff b.queuedTime a.queuedTime = 0 ∧ a.place < b.place)

/-- What the Message Unit reports when a slot's alert state becomes a value: the report stands last, and
there is none when the slot's alert state already was that value (R132). -/
def AlertReported (s t : State) (slot : Nat) (alert : AlertState) : Prop :=
  ∃ ref, refAt s slot = some ref
    ∧ t.wires.reports
      = if alertNow s slot = alert then s.wires.reports
        else s.wires.reports ++ [⟨slot, ref, alert⟩]

/-- What the call list and the link hold once a pupil is added with a reason (R140): the reason joins the
slot's entry, or a new entry stands at the back, or with 96 entries CALL_LIST_FULL is reported. -/
def CallJoined (s t : State) (slot : Nat) (reason : CallReason) : Prop :=
  (callOf s slot ≠ none →
    t.messages.calls = s.messages.calls.map (fun e =>
        if e.slot = slot then { e with reasons := e.reasons.add reason } else e)
      ∧ t.link = s.link)
  ∧ (callOf s slot = none → s.messages.calls.length < 96 →
    t.messages.calls
        = s.messages.calls ++ [⟨slot, CallReasons.none.add reason, now s, none⟩]
      ∧ t.link = s.link)
  ∧ (callOf s slot = none → 96 ≤ s.messages.calls.length →
    t.messages.calls = s.messages.calls
      ∧ t.link = (reportFault ⟨.callListFull, none, some (.slot slot), now s⟩ s).link)

/-- A quiet window covers a zone at a running minute (R54): a CLOCK window by the minute of the day, an
ANCHORED window from the start of its first entry to the end of its last, in the committed table of a plan
in use today that has both entries. -/
def QuietAt (s : State) (minute : Nat) (z : Zone) : QuietWindow → Prop
  | .empty => False
  | .clock first last zones =>
    first ≤ minute % 1440 ∧ minute % 1440 < last ∧ zones.getLsbD z = true
  | .anchored plan first last zones =>
    ∃ u a b, tableOf s plan = some u ∧ u.entries[first]? = some a ∧ u.entries[last]? = some b
      ∧ a.start ≤ minute ∧ minute < b.start + b.length ∧ zones.getLsbD z = true

/-- What a minute event that leads from `s` to `t` asks of a zone's bell (R34, R36, R52): an entry of a
table was not begun and its start has come, or a plan has ended, its pattern not NONE and the zone among
its bell zones. -/
def BellAsked (s t : State) (minute : Nat) (z : Zone) : Prop :=
  (∃ u ∈ s.timetable.tables, ∃ e ∈ u.entries, e.begun = false ∧ e.start ≤ minute
    ∧ e.entry.pattern ≠ .none ∧ e.entry.zones.getLsbD z = true)
  ∨ ∃ u ∈ s.timetable.tables, ∃ v, tableOf t u.plan = some v ∧ u.state ≠ .ended ∧ v.state = .ended
    ∧ u.endPattern ≠ .none ∧ u.endZones.getLsbD z = true

/-- What a minute event that leads from `s` to `t` makes of a recompute in flight (R45, R46). A pass whose
plan has had an entry begun starts again, from the new committed table and with no result, if it was
running, or if every pass had completed (the model's choice, notes/assumptions/43). Every other pass
stands. -/
def PassesStartAgain (s t : State) (minute : Nat) : Prop :=
  (s.timetable.recompute = none → t.timetable.recompute = none)
  ∧ ∀ c, s.timetable.recompute = some c → ∃ passes : List Pass,
    t.timetable.recompute = some { c with passes := passes } ∧ passes.length = c.passes.length
    ∧ ∀ (i : Nat) (x : Pass), c.passes[i]? = some x → ∃ y, passes[i]? = some y
      ∧ (∀ u v, tableOf s x.plan = some u → tableOf t x.plan = some v →
          (∃ e ∈ u.entries, e.begun = false ∧ e.start ≤ minute) →
          (x.result = none ∨ ∀ w ∈ c.passes, w.result ≠ none) → y = ⟨x.plan, v, none⟩)
      ∧ (tableOf s x.plan = none
          ∨ (∃ u, tableOf s x.plan = some u ∧ ∀ e ∈ u.entries, e.begun = true ∨ minute < e.start)
          ∨ (x.result ≠ none ∧ ∃ w ∈ c.passes, w.result = none) → y = x)

/-- The plan of a cohort for a day number (R24): of an enabled cohort, the plan of the today-override, or
with none present that of the weekday, where it names a valid plan. -/
def ChoosesPlan (store : PlanStore) (d : DayNumber) (c : Fin 8) (plan : Nat) : Prop :=
  store.cohorts[c].enabled = true
    ∧ (store.cohorts[c].override = .plan plan
      ∨ store.cohorts[c].override = .absent
        ∧ ∃ w : Fin 7, (w : Nat) = (d.toNat + store.settings.weekdayBase) % 7
          ∧ store.cohorts[c].weekdays[w] = plan)
    ∧ ∃ k : Fin 8, plan = k + 1 ∧ store.plans[k].body ≠ none

/-- The table an opening builds of a plan (R32): the plan's entries at their nominal lengths, laid from
the plan's start with none begun; WAITING, the totals 0, and for each session with a REGISTRATION entry a
record with nothing fixed or raised. -/
def PlanTable.asBuilt (t : PlanTable) (plan : Nat) (b : PlanBody) : Prop :=
  t.plan = plan ∧ t.entries.map (·.entry) = b.entries
    ∧ (∀ (i : Nat) (e : EffEntry), t.entries[i]? = some e →
        e.start = b.start + ((b.entries.take i).map (·.nominal)).sum
          ∧ e.length = e.entry.nominal ∧ e.begun = false)
    ∧ t.endPattern = b.endPattern ∧ t.endZones = b.endZones
    ∧ t.effEnd = b.start + (b.entries.map (·.nominal)).sum
    ∧ t.delayTotal = 0 ∧ t.earlyTotal = 0 ∧ t.shortTotal = 0 ∧ t.state = .waiting
    ∧ ∀ x : Session,
        ((∃ e ∈ b.entries, e.kind = .registration ∧ e.tag = some x) →
          t.session x = some ⟨none, false⟩)
        ∧ ((∀ e ∈ b.entries, e.kind ≠ .registration ∨ e.tag ≠ some x) → t.session x = none)

/-- The level of a BELL line with RESET_N high (R49): high on a SOUNDING line, but for PULSED with even
seconds left. A line with 0 seconds left is low unless its follow flag is set and the push limit has not
reached 0, though its expiry is a later step (R50, R58; the model's reading, notes/assumptions/7). -/
def BellLevels (s : State) : Prop :=
  ∀ z : Zone,
    ((∀ zones, s.bells.push = .following zones 0 → zones.getLsbD z = false) →
      (s.bell z = true ↔ ∃ k n follow, s.bells.lines[z] = .sounding k n follow
        ∧ (n ≠ 0 ∨ follow = true) ∧ ¬(k = .pulsed ∧ n % 2 = 0)))
    ∧ ∀ zones, s.bells.push = .following zones 0 → zones.getLsbD z = true →
      (s.bell z = true ↔ ∃ k n follow, s.bells.lines[z] = .sounding k n follow ∧ n ≠ 0)

/-- No bell line sounds while the Bell Unit's alarm flag is set, and no push is followed (R60). -/
def BellUnit.quietInAlarm (u : BellUnit) : Prop :=
  u.alarm = true → (∀ z : Zone, u.lines[z] = .silent) ∧ ∀ zones limit, u.push ≠ .following zones limit

end Sys2Proof.Machine
end

