-- ==== Sys2Proof/Certificates/Slice0/Obligations.lean ====
section
/-! DEFINITION. The statements for the provers. A request statement is about a frame its port can take
(`Ready`), and gives the whole next state: `State.replied` is a state but for the port of the frame,
which sends the reply named; `State.serving` is a state but for that port, which holds its reply. An
event statement is about a part whose RESET_N is high. -/

open Sys2Proof Sys2Proof.Machine

/-! ### The machine -/

/-- The model's own queue (notes/assumptions/3): a step runs the command at the front with the queue's
rest, and idles on an empty queue. -/
def Obligations.StepRunsTheFrontCommand : Prop :=
  (∀ (s : State) (c : Instr) (rest : List Instr),
      step { s with pending := c :: rest } = exec c { s with pending := rest })
    ∧ ∀ s : State, s.pending = [] → step s = .next s

/-- No command stops the part, and none touches the queue (R162, R169: faults are recorded in
state). -/
def Obligations.EveryCommandGoesOn : Prop :=
  ∀ (c : Instr) (s : State), ∃ t, exec c s = .next t ∧ t.pending = s.pending

/-- R17: RESET_N going low changes nothing but its level, and the bells and ATTN are then low and PWR_EN
of every port high. While it is low the part takes no frame and raises no event, so every command but
POWER_ON_RESET leaves all but the levels of the lines. With RESET_N high each BELL line follows its record
(R49), ATTN is high while the first-fault record is valid (R169), and PWR_EN of a port is high while the
port is ACTIVE (R160). That a line whose count has reached 0 is low before its expiry is taken is the
model's reading (log 7). -/
def Obligations.ResetLowTakesNothing : Prop :=
  (∀ s : State, ∃ t, exec .resetNLow s = .next t
    ∧ t = { s with lines := { s.lines with resetN := false } }
    ∧ (∀ z, t.bell z = false) ∧ t.attn = false ∧ ∀ p, t.powerEnable p = true)
  ∧ (∀ (c : Instr) (s : State), s.lines.resetN = false →
    (∀ straps retainOk, c ≠ .powerOnReset straps retainOk) →
    ∃ t, exec c s = .next t ∧ t = { s with lines := t.lines } ∧ t.lines.resetN = false
      ∧ t.lines.straps = s.lines.straps ∧ (∀ z, t.bell z = false) ∧ t.attn = false
      ∧ ∀ p, t.powerEnable p = true)
  ∧ ∀ s : State, s.lines.resetN = true →
    BellLevels s ∧ (s.attn = true ↔ ∃ r, s.link.fault = some r)
      ∧ ∀ p, s.powerEnable p = true ↔ (s.port p).state = .active

/-- R17 with the reset values of the blocks (R1, R8, R30, R32, R49, R53, R57, R60, R77, R98, R109,
R115, R125, R131, R136, R140, R145, R154, R160, R169): what power-on reset leaves. The messages in
flight dropped are the model's own (notes/assumptions/9). -/
def Obligations.PowerOnResetLeavesTheResetValues : Prop :=
  ∀ (s : State) (straps : Vector (BitVec 3) 6) (retainOk : Bool),
    ∃ t, exec (.powerOnReset straps retainOk) s = .next t
      ∧ t.clock = ⟨0, 0, 0, false⟩
      ∧ t.day.state = .closed ∧ t.day.opened = none ∧ t.day.register = none
      ∧ t.day.closeTime = none ∧ t.day.closePending = false ∧ t.day.held = []
      ∧ t.day.openPort = none ∧ t.day.closePort = none
      ∧ t.timetable = ⟨[], none, none, []⟩
      ∧ (∀ z : Zone, t.bells.lines[z] = .silent) ∧ (∀ n : Fin 8, t.bells.quiet[n] = .empty)
      ∧ t.bells.push = (if s.lines.push then .held else .released)
      ∧ t.bells.alarm = s.lines.alarm
      ∧ (∀ k, recordAt t k = .reset .none .none) ∧ t.register.amendments = []
      ∧ t.register.lost = 0 ∧ (∀ n : Fin 8, t.register.closed[n] = ⟨false, false⟩)
      ∧ t.register.group.state = .none
      ∧ t.register.walker = ⟨none, 0, s.lines.alarm, [], none, none⟩
      ∧ (∀ r, holdAt t r = none)
      ∧ t.messages.outbound = [] ∧ t.messages.tagCounter = 1
      ∧ t.roll = ⟨s.lines.alarm, .idle, []⟩
      ∧ (∀ p : PortId, t.port p
          = { role := roleOfStraps straps[p], state := .active, cycleEnd := none,
              receive := .hunting, service := .idle, limit := 64,
              faults := ⟨false, false, false, false, false⟩, discarded := 0, reply := none })
      ∧ t.link.fault = none ∧ t.link.more = ⟨false, false, false⟩
      ∧ t.wires = ⟨[], [], [], [], [], []⟩
      ∧ t.lines = { s.lines with resetN := true, straps := straps, retainOk := retainOk }
      ∧ (retainOk = true →
          t.store = s.store ∧ t.pupils = s.pupils ∧ t.messages.standing = s.messages.standing
            ∧ t.messages.calls = s.messages.calls ∧ t.totals = s.totals)
      ∧ (retainOk = false →
          (∀ n : Fin 8, t.store.plans[n] = ⟨0, none⟩)
            ∧ (∀ c : Fin 8, t.store.cohorts[c].enabled = false
                ∧ (∀ d : Fin 7, t.store.cohorts[c].weekdays[d] = 0)
                ∧ t.store.cohorts[c].override = .absent)
            ∧ t.store.settings = ⟨420, 1080, 0, .timed, 5, 0xFF, 0, false⟩
            ∧ (∀ k, pupilAt t k = none) ∧ (∀ n : Fin 8, t.pupils.windows[n] = none)
            ∧ t.messages.standing = [] ∧ t.messages.calls = []
            ∧ (∀ k, totalsAt t k = zeroAccumulator) ∧ t.totals.termDays = 0)

/-- R18: when a RESTART takes effect the clock, the port roles and every retained item stay, and the
rest of the part is as power-on reset leaves it. -/
def Obligations.RestartKeepsClockRolesAndRetained : Prop :=
  ∀ s : State, s.lines.resetN = true → s.link.restartDue = true →
    ∃ t, exec .restartEffect s = .next t
      ∧ t.clock = s.clock ∧ t.store = s.store ∧ t.pupils = s.pupils
      ∧ t.messages = ⟨s.messages.standing, [], 1, s.messages.calls⟩ ∧ t.totals = s.totals
      ∧ t.day = .reset ∧ t.timetable = ⟨[], none, none, []⟩
      ∧ t.bells = .reset s.lines.push s.lines.alarm ∧ t.register = .reset s.lines.alarm
      ∧ t.arrivals.holds = [] ∧ t.roll = ⟨s.lines.alarm, .idle, []⟩
      ∧ (∀ p : PortId, t.port p = .reset (s.port p).role)
      ∧ t.link.fault = none ∧ t.link.more = ⟨false, false, false⟩ ∧ t.link.restartDue = false
      ∧ t.lines = s.lines

/-- R18 and R163: RESTART is answered OK and changes nothing else; when the last octet of a port's
reply has left, the port is IDLE, and a restart becomes due exactly when the reply was the OK of a
RESTART. -/
def Obligations.RestartIsDueOnceItsReplyHasLeft : Prop :=
  (∀ (s : State) (f : Frame), Ready s f .restart →
      exec (.restart f) s = .next (s.replied f .restart .ok false .empty))
    ∧ ∀ (s : State) (p : PortId) (r : Reply), s.lines.resetN = true → (s.port p).reply = some r →
      ∃ t, exec (.replyComplete p) s = .next t
        ∧ t = { s with link := t.link }
        ∧ t.port p = { s.port p with reply := none, service := .idle }
        ∧ (∀ q, q ≠ p → t.port q = s.port q)
        ∧ t.link.fault = s.link.fault ∧ t.link.more = s.link.more
        ∧ (t.link.restartDue = true ↔
            s.link.restartDue = true ∨ (r.kind = 0x85 ∧ r.head.status = .ok))

/-- R160: a port keeps its role until the next power-on reset. -/
def Obligations.RolesChangeOnlyAtPowerOnReset : Prop :=
  ∀ (c : Instr) (s t : State), (∀ straps retainOk, c ≠ .powerOnReset straps retainOk) →
    exec c s = .next t → ∀ p, (t.port p).role = (s.port p).role

/-! ### What every step keeps -/

/-- The state after reset has the properties the statements below say every step keeps. -/
def Obligations.ResetHasTheInvariants : Prop :=
  State.reset.clock.inRange ∧ State.reset.store.sound ∧ State.reset.pupils.sound
    ∧ State.reset.bells.quietInAlarm ∧ State.reset.timetable.sound
    ∧ State.reset.recomputesInOpen ∧ State.reset.canonical

/-- R1: every step keeps the clock's fields in their ranges. The width of the day number is its
type. -/
def Obligations.EveryStepKeepsTheClockInRange : Prop :=
  ∀ s t : State, s.clock.inRange → step s = .next t → t.clock.inRange

/-- R19 to R23 and R27: every step keeps each valid plan as validation left it, the cohort table and the
day settings in range. -/
def Obligations.EveryStepKeepsThePlanStoreSound : Prop :=
  ∀ s t : State, s.store.sound → step s = .next t → t.store.sound

/-- R62 and R64: every step keeps the Pupil Table canonical, its records in range, and no two ENROLLED
records with one pupil reference or one nonzero card. -/
def Obligations.EveryStepKeepsPupilsDistinct : Prop :=
  ∀ s t : State, s.pupils.sound → step s = .next t → t.pupils.sound

/-- R60: no bell line sounds while the Bell Unit's alarm flag is set. -/
def Obligations.EveryStepKeepsBellsSilentInAlarm : Prop :=
  ∀ s t : State, s.bells.quietInAlarm → step s = .next t → t.bells.quietInAlarm

/-- Every step keeps the slot tables of the Day Register, the Arrivals Unit and the Term Accumulators
canonical (the model's own form; R78, R109 and R145 give the records). -/
def Obligations.EveryStepKeepsSlotTablesCanonical : Prop :=
  ∀ s t : State, s.pupils.sound → s.canonical → step s = .next t → t.canonical

/-! ### The School Clock -/

/-- R1, R2, R16: a second event advances the clock by one second, midnight included, whatever else it
sets going, and leaves the Plan Store, the Pupil Table and the lines. At a whole minute, with no route
held and no message handed over, a minute event is raised as well. The auto-open minute takes an opening
in CLOSED where its conditions hold (R9, R10); the auto-close minute takes a closing in OPEN, and makes a
close pending in OPENING (R12, R14). Any other minute of the register day or of the day after it, in OPEN,
becomes the current minute: every entry whose start it has reached has begun, the
close minute of a registration entry then begun is fixed, each close due is raised with its closed flag
and its sweep item, and each plan at its effective end is ENDED (R33 to R36, R89, R116). Each zone that an
entry then begun or a plan then ended asks for sounds, unless a quiet window covers it at that minute
(R52, R54); any other line has the second alone. A running pass whose plan has had an entry begun starts
again from the new table, and so does a completed pass once all have completed (R45, R46). The model's
choices: auto-open and auto-close go before the Timetable Engine, so that a minute that closes the day
leaves every table and gives the bells the second alone (log 13), the expiry of a bell count or of the
push limit that reaches 0 is a later step (log 7), of which `s.bells.second` leaves the count at 0, and
a completed pass starts again only when its swap is due (log 43). -/
def Obligations.SecondEventAdvancesTheClock : Prop :=
  (∀ (s : State) (b : Bool), s.lines.resetN = true →
    ∃ t, exec (.secondEvent b) s = .next t
      ∧ t.clock = (if s.clock.time + 1 < 86400
          then ⟨s.clock.time + 1, s.clock.day, 0, s.clock.valid⟩
          else ⟨0, s.clock.day + 1, 0, s.clock.valid⟩)
      ∧ t.store = s.store ∧ t.pupils = s.pupils ∧ t.lines = s.lines)
  ∧ ∀ (s : State) (b : Bool) (c : Clock) (minute : Nat), s.lines.resetN = true →
    s.arrivals.holds = [] → (∀ e ∈ s.messages.outbound, e.handed = none) →
    c = (if s.clock.time + 1 < 86400 then ⟨s.clock.time + 1, s.clock.day, 0, s.clock.valid⟩
      else ⟨0, s.clock.day + 1, 0, s.clock.valid⟩) →
    c.time = 60 * minute →
    (s.day.state = .closed → minute = s.store.settings.autoOpen →
      minute ≠ s.store.settings.autoClose → c.valid = true → s.day.opened ≠ some c.day →
      (∃ k : Fin 8, planForDay s.store c.day k ≠ none) →
      ∃ (plans : Vector (Option Nat) 8) (tables : List PlanTable) (closed : Vector SessionSet 8),
        exec (.secondEvent b) s = .next
          { s with
            clock := c
            day := { s.day with state := .opening, opened := some c.day, register := some c.day,
                                closePending := false, plans := plans }
            timetable := { s.timetable with tables := tables, current := none }
            register := { s.register with
              amendments := [], lost := 0, closed := closed,
              group := ⟨.none, none, 0, 0, 0⟩,
              walker := { s.register.walker with hand := some .openWalk, cursor := 0 } }
            messages := { s.messages with outbound := [] }
            bells := s.bells.second
            arrivals := ⟨[], 0⟩ }
        ∧ (∀ k : Fin 8, plans[k] = planForDay s.store c.day k) ∧ TablesOf s.store plans tables
        ∧ ∀ n : Fin 8, closed[n] = ⟨false, false⟩)
    ∧ (s.day.state = .opening → minute = s.store.settings.autoClose →
      exec (.secondEvent b) s = .next
        { s with clock := c, day := { s.day with closePending := true }, bells := s.bells.second,
                 arrivals := ⟨[], 0⟩ })
    ∧ (s.day.state = .open → minute = s.store.settings.autoClose →
      ∃ t, exec (.secondEvent b) s = .next t
      ∧ t.day = { s.day with state := .closing, closeTime := some ⟨c.time, c.day⟩,
                             closePending := false }
      ∧ t.arrivals = ⟨[], 0⟩ ∧ t.bells = s.bells.second
      ∧ t.register.walker = ⟨some .closeWalk, 0, s.register.walker.alarm, [], none, none⟩
      ∧ t.register.records = s.register.records ∧ t.messages.outbound = []
      ∧ t.timetable.tables = s.timetable.tables ∧ t.timetable.recompute = none
      ∧ t.timetable.held = []
      ∧ ∀ m, runningMinute s minute c.day = some m → t.timetable.current = some m)
    ∧ ∀ m, s.day.state = .open → minute ≠ s.store.settings.autoClose →
      runningMinute s minute c.day = some m → (s.timetable.tables.map (·.plan)).Nodup →
      (∀ u ∈ s.timetable.tables, 1 ≤ u.plan ∧ u.plan ≤ 8) →
      ∃ t, exec (.secondEvent b) s = .next t
      ∧ t = { s with
          clock := c
          timetable := { s.timetable with
            tables := t.timetable.tables, current := some m, recompute := t.timetable.recompute }
          bells := t.bells
          register := { s.register with
            closed := t.register.closed, walker := t.register.walker, group := t.register.group }
          arrivals := ⟨[], 0⟩ }
      ∧ (∀ plan, tableOf s plan = none → tableOf t plan = none)
      ∧ (∀ z : Zone,
          (s.bells.alarm = false → (∀ n : Fin 8, ¬ QuietAt s m z s.bells.quiet[n]) →
            BellAsked s t m z →
            ∃ k n follow, 2 ≤ n ∧ t.bells.lines[z] = .sounding k n follow)
          ∧ ((s.bells.alarm = true ∨ (∃ n : Fin 8, QuietAt s m z s.bells.quiet[n])
              ∨ ¬ BellAsked s t m z) →
            t.bells.settle.lines[z] = s.bells.second.settle.lines[z]))
      ∧ PassesStartAgain s t m
      ∧ ∀ plan u, tableOf s plan = some u → ∃ v, tableOf t plan = some v
        ∧ v = { u with
            entries := u.entries.map fun e => { e with begun := e.begun || decide (e.start ≤ m) }
            state := v.state, am := v.am, pm := v.pm }
        ∧ (v.state = .waiting ↔ u.state = .waiting ∧ ∀ e ∈ u.entries, e.begun = true ∨ m < e.start)
        ∧ (v.state = .ended ↔ u.state = .ended
            ∨ ((u.state = .running ∨ ∃ e ∈ u.entries, e.begun = false ∧ e.start ≤ m)
              ∧ (∀ e ∈ v.entries, e.begun = true) ∧ u.effEnd ≤ m))
        ∧ ∀ x, (u.session x = none → v.session x = none)
          ∧ ∀ r, u.session x = some r → ∃ q, v.session x = some q
            ∧ (∀ e, u.registration x = some e → e.begun = false → e.start ≤ m →
                q.fixedClose = some (e.start + e.entry.grace.getD 0))
            ∧ ((∀ e, u.registration x = some e → e.begun = true ∨ m < e.start) →
                q.fixedClose = r.fixedClose)
            ∧ (q.raised = true ↔ r.raised = true
                ∨ (v.sessionBegun x = true ∧ ∃ close, v.closeMinute x = some close ∧ close ≤ m))
            ∧ (closedFor t plan x = true ↔
                closedFor s plan x = true ∨ (r.raised = false ∧ q.raised = true))
            ∧ (r.raised = false → q.raised = true → ∃ close, v.closeMinute x = some close
                ∧ (⟨plan, x, runningStamp s close⟩ ∈ t.register.walker.sessions
                  ∨ t.register.walker.hand
                    = some (.item (.session ⟨plan, x, runningStamp s close⟩))))

/-- R50, R58: a second event at no whole minute, with no route held and no message handed over, only
counts: every SOUNDING line goes down by one, and a followed push comes one nearer its limit. That a line
whose seconds reach 0 without follow, or a push whose limit reaches 0, is left with its 0 and becomes
SILENT or HELD in a step of its own, taken at the latest before the next second event counts, is the
model's reading (log 7): so a line met at 0 without follow falls SILENT here. -/
def Obligations.QuietSecondCountsTheBells : Prop :=
  ∀ (s : State) (b : Bool), s.lines.resetN = true → s.arrivals.holds = [] →
    (∀ e ∈ s.messages.outbound, e.handed = none) → s.clock.time + 1 < 86400 →
    (s.clock.time + 1) % 60 ≠ 0 → (∀ zones, s.bells.push ≠ .following zones 0) →
    ∃ u : BellUnit,
      exec (.secondEvent b) s
          = .next { s with clock := ⟨s.clock.time + 1, s.clock.day, 0, s.clock.valid⟩,
                           bells := u, arrivals := ⟨[], 0⟩ }
        ∧ u.alarm = s.bells.alarm ∧ u.quiet = s.bells.quiet
        ∧ (∀ z : Zone, s.bells.lines[z] = .silent → u.lines[z] = .silent)
        ∧ (∀ (z : Zone) k n follow, s.bells.lines[z] = .sounding k n follow →
            u.lines[z] = if n = 0 ∧ follow = false then .silent else .sounding k (n - 1) follow)
        ∧ (s.bells.push = .released → u.push = .released)
        ∧ (s.bells.push = .held → u.push = .held)
        ∧ ∀ zones n, s.bells.push = .following zones (n + 1) → u.push = .following zones n

/-- READ-TIME returns the clock, the weekday of its day number and the day state record, in every day
state, from a port of any role, and changes nothing else (R4). -/
def Obligations.ReadTimeReturnsTheClock : Prop :=
  (∀ role : Role, role ≠ .none → Kind.readTime.allows role = true)
    ∧ ∀ (s : State) (f : Frame), Ready s f .readTime →
      exec (.readTime f) s
        = .next (s.replied f .readTime .ok false
            (.time
              { time := s.clock.time, day := s.clock.day,
                weekdayBase := s.store.settings.weekdayBase,
                weekday := (s.clock.day.toNat + s.store.settings.weekdayBase) % 7,
                valid := s.clock.valid, state := s.day.state, register := s.day.register,
                opened := s.day.opened }))

/-- R5, R6, R7: a SET-TIME with a time of day over 86399 or a weekday base over 6 is answered BAD_FIELD;
outside CLOSED one with a step over 120 seconds either way, with another weekday base, or of a clock
that is not valid is answered BUSY. Otherwise it is taken: the clock takes the given values with its
weekday base and is valid, and one second event is raised. A clock not valid before gives no step and no
minute event. A step forward of up to 120 seconds raises a minute event for each whole minute it passes,
and the reply counts them; any other step raises none. A minute so raised opens at the auto-open minute,
closes at the auto-close minute, and else begins in OPEN every entry whose start it has reached. That a
closing inside the step has the new time as its close time is the model's choice (log 33), and that a bell
count or push limit which the second event brings to 0 expires in a later step its reading (log 7). Stated
for a part with no route held and no hand-over outstanding. -/
def Obligations.SetTimeSetsTheClock : Prop :=
  ∀ (s : State) (f : Frame) (time : Nat) (day : DayNumber) (base : Nat), Ready s f .setTime →
    (86399 < time ∨ 6 < base →
      exec (.setTime f time day base) s = .next (s.replied f .setTime .badField false .empty))
    ∧ (time ≤ 86399 → base ≤ 6 → s.day.state ≠ .closed →
        (s.clock.valid = false ∨ base ≠ s.store.settings.weekdayBase
          ∨ 120 < stampDiff ⟨time, day⟩ ⟨s.clock.time, s.clock.day⟩
          ∨ stampDiff ⟨time, day⟩ ⟨s.clock.time, s.clock.day⟩ < -120) →
        exec (.setTime f time day base) s = .next (s.replied f .setTime .busy false .empty))
    ∧ (time ≤ 86399 → base ≤ 6 → s.day.state = .closed → s.clock.valid = false →
        s.arrivals.holds = [] → (∀ e ∈ s.messages.outbound, e.handed = none) →
        exec (.setTime f time day base) s
          = .next (State.replied f .setTime .ok false (.timeSet time day none 0)
              { s with clock := ⟨time, day, 0, true⟩,
                       store := { s.store with
                         settings := { s.store.settings with weekdayBase := base } },
                       bells := s.bells.second, arrivals := ⟨[], 0⟩ }))
    ∧ ∀ (step : Int) (old : Nat), time ≤ 86399 → base ≤ 6 → s.clock.valid = true →
      s.arrivals.holds = [] → (∀ e ∈ s.messages.outbound, e.handed = none) →
      step = stampDiff ⟨time, day⟩ ⟨s.clock.time, s.clock.day⟩ →
      old = s.clock.day.toNat * 86400 + s.clock.time →
      (s.day.state = .closed ∨ (base = s.store.settings.weekdayBase ∧ -120 ≤ step ∧ step ≤ 120)) →
      ∃ (minutes : Nat) (t : State), exec (.setTime f time day base) s
          = .next (State.replied f .setTime .ok false (.timeSet time day (some step) minutes) t)
        ∧ t.clock = ⟨time, day, 0, true⟩
        ∧ t.store = { s.store with settings := { s.store.settings with weekdayBase := base } }
        ∧ t.pupils = s.pupils ∧ t.lines = s.lines
        ∧ (step ≤ 0 ∨ 120 < step → minutes = 0)
        ∧ (0 ≤ step → step ≤ 120 → minutes = (old + step.toNat) / 60 - old / 60)
        ∧ (minutes = 0 → t = { s with
            clock := ⟨time, day, 0, true⟩, store := t.store, bells := s.bells.second,
            arrivals := ⟨[], 0⟩ })
        ∧ ∀ passed : Nat → Prop,
          (∀ k, passed k ↔ ∃ j, old / 60 < j ∧ j ≤ old / 60 + minutes ∧ j % 1440 = k) →
          (s.day.state = .closed → passed s.store.settings.autoOpen → s.day.opened ≠ some day →
            (∃ c : Fin 8, planForDay t.store day c ≠ none) →
            t.day.state = .opening ∧ t.day.register = some day
              ∧ t.register.walker.hand = some .openWalk)
          ∧ (s.day.state = .opening → passed s.store.settings.autoClose →
            t.day.state = .opening ∧ t.day.closePending = true)
          ∧ (s.day.state = .open → passed s.store.settings.autoClose →
            t.day.state = .closing ∧ t.day.closeTime = some ⟨time, day⟩
              ∧ t.register.walker.hand = some .closeWalk)
          ∧ ∀ m, s.day.state = .open → ¬ passed s.store.settings.autoClose → 0 < minutes →
            runningMinute s (time / 60) day = some m →
            (s.timetable.tables.map (·.plan)).Nodup →
            t.day.state = .open ∧ t.timetable.current = some m
              ∧ ∀ plan u, tableOf s plan = some u → ∃ v, tableOf t plan = some v
                ∧ v.entries.map (·.start) = u.entries.map (·.start)
                ∧ ∀ e ∈ v.entries, e.start ≤ m → e.begun = true

/-! ### Bells -/

/-- R50, R58: a line whose seconds left have reached 0 without follow falls SILENT, and no other line
changes; a push limit that has reached 0 withdraws the follow from the recorded zones and the push is
HELD. An expiry that is not due changes nothing (notes/assumptions/5). -/
def Obligations.BellExpiriesSilenceTheirLines : Prop :=
  ∀ s : State, s.lines.resetN = true →
    (∀ z : Zone, ∃ t, exec (.bellCountExpiry z) s = .next t
      ∧ t = { s with bells := { s.bells with lines := t.bells.lines } }
      ∧ (∀ w, w ≠ z → t.bells.lines[w] = s.bells.lines[w])
      ∧ (∀ k, s.bells.lines[z] = .sounding k 0 false → t.bells.lines[z] = .silent)
      ∧ ((∀ k, s.bells.lines[z] ≠ .sounding k 0 false) → t.bells.lines[z] = s.bells.lines[z]))
    ∧ (∀ zones, s.bells.push = .following zones 0 → ∃ t, exec .pushLimitExpiry s = .next t
      ∧ t = { s with bells := { s.bells with push := .held, lines := t.bells.lines } }
      ∧ (∀ z : Zone, zones.getLsbD z = false → t.bells.lines[z] = s.bells.lines[z])
      ∧ (∀ z : Zone, zones.getLsbD z = true → s.bells.lines[z] = .sounding .continuous 0 true →
          t.bells.lines[z] = .silent)
      ∧ ∀ (z : Zone) n, zones.getLsbD z = true →
          s.bells.lines[z] = .sounding .continuous (n + 1) true →
          t.bells.lines[z] = .sounding .continuous (n + 1) false)
    ∧ ((∀ zones, s.bells.push ≠ .following zones 0) → exec .pushLimitExpiry s = .next s)

/-- R49, R51, R56: a RING with no zones or no pattern is answered BAD_FIELD; under the alarm it is
discarded and says so; otherwise each SILENT line of the set starts the pattern, SHORT for 3 seconds,
LONG for 8 or PULSED for 5, and each SOUNDING one is merged, as the reply reports. The lines it meets
have had their expiries taken (notes/assumptions/7). -/
def Obligations.RingStartsAndMergesLines : Prop :=
  ∀ (s : State) (f : Frame) (zones : EightSet) (pattern : Option BellPattern), Ready s f .ring →
    (zones = 0 ∨ pattern = none ∨ pattern = some .none →
      exec (.ring f zones pattern) s = .next (s.replied f .ring .badField false .empty))
    ∧ ∀ (k : LinePattern) (length : Nat), zones ≠ 0 →
      (pattern = some .short ∧ k = .short ∧ length = 3
        ∨ pattern = some .long ∧ k = .long ∧ length = 8
        ∨ pattern = some .pulsed ∧ k = .pulsed ∧ length = 5) →
      (s.bells.alarm = true →
        exec (.ring f zones pattern) s
          = .next (s.replied f .ring .ok false (.rung ⟨0, 0, true, s.bells.lines⟩)))
      ∧ (s.bells.alarm = false → ∃ (u : BellUnit) (started merged : EightSet),
        exec (.ring f zones pattern) s
            = .next (State.replied f .ring .ok false (.rung ⟨started, merged, false, u.lines⟩)
                { s with bells := u })
          ∧ u = { s.bells.settle with lines := u.lines }
          ∧ ∀ z : Zone,
            (zones.getLsbD z = false → u.lines[z] = s.bells.settle.lines[z]
              ∧ started.getLsbD z = false ∧ merged.getLsbD z = false)
            ∧ (zones.getLsbD z = true → s.bells.settle.lines[z] = .silent →
                u.lines[z] = .sounding k length false
                  ∧ started.getLsbD z = true ∧ merged.getLsbD z = false)
            ∧ ∀ j n follow, zones.getLsbD z = true →
                s.bells.settle.lines[z] = .sounding j n follow →
                u.lines[z] = .sounding .continuous (max n length) follow
                  ∧ started.getLsbD z = false ∧ merged.getLsbD z = true)

/-- R57 to R59: an assertion of PUSH is taken in RELEASED alone. Under the alarm it makes the push HELD
and no request; in TIMED mode it rings the push zones for the push length; in FOLLOW mode it takes
hold of them, with a limit of 60. A release withdraws a follow and changes no line otherwise. The lines a
push meets have had their expiries taken, the model's reading (log 7). -/
def Obligations.PushRingsByItsMode : Prop :=
  ∀ s : State, s.lines.resetN = true →
    (s.bells.push ≠ .released →
      exec .pushAssert s = .next { s with lines := { s.lines with push := true } })
    ∧ (s.bells.push = .released → s.bells.alarm = true →
      exec .pushAssert s
        = .next { s with lines := { s.lines with push := true },
                         bells := { s.bells with push := .held } })
    ∧ (s.bells.push = .released → s.bells.alarm = false → ∃ t, exec .pushAssert s = .next t
      ∧ t = { s with lines := { s.lines with push := true },
                     bells := { s.bells with lines := t.bells.lines, push := t.bells.push } }
      ∧ (∀ z : Zone, s.store.settings.pushZones.getLsbD z = false →
          t.bells.lines[z] = s.bells.settle.lines[z])
      ∧ (s.store.settings.pushMode = .timed → t.bells.push = .held
        ∧ ∀ z : Zone, s.store.settings.pushZones.getLsbD z = true →
          (s.bells.settle.lines[z] = .silent →
            t.bells.lines[z] = .sounding .continuous s.store.settings.pushLength false)
          ∧ ∀ j n follow, s.bells.settle.lines[z] = .sounding j n follow →
            t.bells.lines[z]
              = .sounding .continuous (max n s.store.settings.pushLength) follow)
      ∧ (s.store.settings.pushMode = .follow →
        t.bells.push = .following s.store.settings.pushZones 60
        ∧ ∀ z : Zone, s.store.settings.pushZones.getLsbD z = true →
          (s.bells.settle.lines[z] = .silent →
            t.bells.lines[z] = .sounding .continuous 0 true)
          ∧ ∀ j n follow, s.bells.settle.lines[z] = .sounding j n follow →
            t.bells.lines[z] = .sounding .continuous n true))
    ∧ (s.bells.push = .released ∨ s.bells.push = .held →
      exec .pushRelease s
        = .next { s with lines := { s.lines with push := false },
                         bells := { s.bells with push := .released } })
    ∧ ∀ zones limit, s.bells.push = .following zones limit → ∃ t, exec .pushRelease s = .next t
      ∧ t = { s with lines := { s.lines with push := false },
                     bells := { s.bells with lines := t.bells.lines, push := .released } }
      ∧ (∀ z : Zone, zones.getLsbD z = false → t.bells.lines[z] = s.bells.lines[z])
      ∧ (∀ z : Zone, zones.getLsbD z = true → s.bells.lines[z] = .sounding .continuous 0 true →
          t.bells.lines[z] = .silent)
      ∧ ∀ (z : Zone) n, zones.getLsbD z = true →
          s.bells.lines[z] = .sounding .continuous (n + 1) true →
          t.bells.lines[z] = .sounding .continuous (n + 1) false

/-- R60, R61, R122, R154, R155: an assertion of ALARM silences every line, ends a followed push, starts
a roll where the day is OPEN and the roll IDLE, makes a STANDING roll ACTIVE and pauses the walker; a
release changes no line, makes an ACTIVE roll STANDING and lets an IDLE walker take the waiting item
that goes before the others: the one of the earliest due stamp, of equal ones a session sweep, by plan and
AM before PM, then the route sweep, then the group mark (R117). Each acts on a change of the alarm
state. -/
def Obligations.AlarmSilencesBellsAndMovesTheRoll : Prop :=
  (∀ s : State, s.lines.resetN = true →
    (∃ t, exec .alarmAssert s = .next t
      ∧ t = { s with lines := { s.lines with alarm := true }, bells := t.bells, roll := t.roll,
                     register := { s.register with
                       walker := { s.register.walker with alarm := true } } }
      ∧ t.bells.alarm = true ∧ t.bells.quiet = s.bells.quiet
      ∧ (∀ z : Zone, t.bells.lines[z] = .silent)
      ∧ t.bells.push = (if s.bells.push = .released then .released else .held)
      ∧ (s.roll.alarm = true → t.roll = s.roll)
      ∧ (s.roll.alarm = false → s.roll.state = .idle → s.day.state = .open →
          t.roll = ⟨true, .building 0, []⟩)
      ∧ (s.roll.alarm = false → s.roll.state = .standing →
          t.roll = ⟨true, .active, s.roll.entries⟩)
      ∧ (s.roll.alarm = false → s.roll.state ≠ .standing →
          (s.roll.state = .idle → s.day.state ≠ .open) →
          t.roll = ⟨true, s.roll.state, s.roll.entries⟩))
    ∧ ∃ t, exec .alarmRelease s = .next t
      ∧ t = { s with lines := { s.lines with alarm := false },
                     bells := { s.bells with alarm := false }, roll := t.roll,
                     register := t.register }
      ∧ (s.roll.alarm = false → t.roll = s.roll)
      ∧ (s.roll.alarm = true → s.roll.state = .active →
          t.roll = ⟨false, .standing, s.roll.entries⟩)
      ∧ (s.roll.alarm = true → s.roll.state ≠ .active →
          t.roll = ⟨false, s.roll.state, s.roll.entries⟩)
      ∧ (s.register.walker.hand ≠ none ∨ s.register.walker.waiting = [] →
          t.register = { s.register with walker := { s.register.walker with alarm := false } })
      ∧ ∀ i, s.register.walker.hand = none →
          firstBy WalkItem.before s.register.walker.waiting = some i →
          TakesItem { s.register with walker := { s.register.walker with alarm := false } }
            t.register i)
  ∧ TheFirstItemIsTaken

/-- R53, R54: WRITE-QUIET replaces its window whole, in every day state, and answers all eight with the
spans of the ANCHORED ones, from the start of the first entry to the end of the last in the committed
table, or inactive where the plan has no table or lacks an entry; a number over 7 or a window that is not
one of the three kinds in range is answered BAD_FIELD. -/
def Obligations.WriteQuietReplacesItsWindow : Prop :=
  (∀ s : State, quietItem s .empty = ⟨.empty, .notAnchored⟩
    ∧ (∀ a b zones, quietItem s (.clock a b zones) = ⟨.clock a b zones, .notAnchored⟩)
    ∧ ∀ plan a b zones,
      (∀ u x y, tableOf s plan = some u → u.entries[a]? = some x → u.entries[b]? = some y →
        quietItem s (.anchored plan a b zones)
          = ⟨.anchored plan a b zones, .span x.start (y.start + y.length)⟩)
      ∧ ((∀ u, tableOf s plan = some u → u.entries.length ≤ a ∨ u.entries.length ≤ b) →
        quietItem s (.anchored plan a b zones) = ⟨.anchored plan a b zones, .inactive⟩))
  ∧ ∀ (s : State) (f : Frame) (number : Nat) (r : QuietReq), Ready s f .writeQuiet →
    (∀ (n : Fin 8) (w : QuietWindow), number = n →
      (r = .empty ∧ w = .empty
        ∨ (∃ a b zones, r = .clock a b zones ∧ w = .clock a b zones ∧ a < b ∧ b ≤ 1439 ∧ zones ≠ 0)
        ∨ (∃ plan a b zones, r = .anchored plan a b zones ∧ w = .anchored plan a b zones
            ∧ 1 ≤ plan ∧ plan ≤ 8 ∧ a ≤ b ∧ b ≤ 23 ∧ zones ≠ 0)) →
      exec (.writeQuiet f number r) s
        = .next (State.replied f .writeQuiet .ok false
            (.quiet ((s.bells.quiet.set n w).toList.map (quietItem s)))
            { s with bells := { s.bells with quiet := s.bells.quiet.set n w } }))
    ∧ (7 < number ∨ r = .unknown
        ∨ (∃ a b zones, r = .clock a b zones ∧ (1439 < a ∨ 1439 < b ∨ b ≤ a ∨ zones = 0))
        ∨ (∃ plan a b zones, r = .anchored plan a b zones
            ∧ (plan = 0 ∨ 8 < plan ∨ 23 < a ∨ 23 < b ∨ b < a ∨ zones = 0)) →
      exec (.writeQuiet f number r) s
        = .next (s.replied f .writeQuiet .badField false .empty))

/-! ### The school day -/

/-- R9, R10, R24, R32, R96, R144: in CLOSED, with a valid clock, a day not opened before and a cohort
with a plan, DAY-OPEN takes an opening: the register day is the clock's, each cohort's plan is fixed, by
its today-override or its weekday, a table stands for each plan in use as R32 builds it from nominal, the
register's lists and flags are emptied, the open walk starts at slot 0, the outbound queue is emptied,
and the reply is held. Otherwise the first condition that fails names the answer, and nothing changes. -/
def Obligations.DayOpenTakesAnOpening : Prop :=
  (∀ (store : PlanStore) (d : DayNumber) (c : Fin 8) (plan : Nat),
    planForDay store d c = some plan ↔ ChoosesPlan store d c plan)
  ∧ (∀ (store : PlanStore) (plan : Nat) (b : PlanBody), planBody store plan = some b ↔
    ∃ k : Fin 8, plan = k + 1 ∧ store.plans[k].body = some b)
  ∧ (∀ (plan : Nat) (b : PlanBody), (buildTable plan b).asBuilt plan b)
  ∧ ∀ (s : State) (f : Frame), Ready s f .dayOpen →
    (s.day.state ≠ .closed →
      exec (.dayOpen f) s = .next (s.replied f .dayOpen .busy false .empty))
    ∧ (s.day.state = .closed → s.clock.valid = false →
      exec (.dayOpen f) s = .next (s.replied f .dayOpen .noClock false .empty))
    ∧ (s.day.state = .closed → s.clock.valid = true → s.day.opened = some s.clock.day →
      exec (.dayOpen f) s = .next (s.replied f .dayOpen .duplicate false .empty))
    ∧ (s.day.state = .closed → s.clock.valid = true → s.day.opened ≠ some s.clock.day →
      (∀ c : Fin 8, planForDay s.store s.clock.day c = none) →
      exec (.dayOpen f) s = .next (s.replied f .dayOpen .notScheduled false .empty))
    ∧ (s.day.state = .closed → s.clock.valid = true → s.day.opened ≠ some s.clock.day →
      (∃ c : Fin 8, planForDay s.store s.clock.day c ≠ none) →
      ∃ (plans : Vector (Option Nat) 8) (tables : List PlanTable) (closed : Vector SessionSet 8),
        exec (.dayOpen f) s = .next (State.serving f .dayOpen
          { s with
            day := { s.day with state := .opening, opened := some s.clock.day,
                                register := some s.clock.day, closePending := false, plans := plans,
                                openPort := some f.port }
            timetable := { s.timetable with tables := tables, current := none }
            register := { s.register with
              amendments := [], lost := 0, closed := closed,
              group := ⟨.none, none, 0, 0, 0⟩,
              walker := { s.register.walker with hand := some .openWalk, cursor := 0 } }
            messages := { s.messages with outbound := [] } })
        ∧ (∀ c : Fin 8, plans[c] = planForDay s.store s.clock.day c)
        ∧ (∀ n : Fin 8, closed[n] = ⟨false, false⟩) ∧ TablesOf s.store plans tables)

/-- R12, R14, R47, R90, R123, R124, R143: in OPEN, DAY-CLOSE takes a closing: the close time is now,
route holds end with no sweep, the walker's queue and walk are dropped for the close walk, a group mark
owed is STOPPED, a recompute is abandoned, its SHIFT and every request held for it are answered
DAY_CLOSED, and the reply is held. Every QUEUED entry leaves the queue, an alert reported UNSENT and a
CORRECTION DELIVERED, and every HANDED entry stays with its after-close flag set. That the messages the
Day Register has already made are taken before this, so that none is left in flight, is the model's
choice (log 10), and so is that a group walk which has visited slot 2047 and waits for its WALK_COMPLETE
is STOPPED and not DONE (log 26). Where no message is in flight the queue is exactly the HANDED entries.
-/
def Obligations.DayCloseTakesAClosing : Prop :=
  ∀ (s : State) (f : Frame), Ready s f .dayClose →
    (s.day.state = .opening ∨ s.day.state = .closing →
      exec (.dayClose f) s = .next (s.replied f .dayClose .busy false .empty))
    ∧ (s.day.state = .closed →
      exec (.dayClose f) s = .next (s.replied f .dayClose .dayClosed false .empty))
    ∧ (s.day.state = .open → ∃ t, exec (.dayClose f) s = .next t
      ∧ t.day = { s.day with state := .closing, closeTime := some ⟨s.clock.time, s.clock.day⟩,
                             closePending := false, closePort := some f.port }
      ∧ t.arrivals = ⟨[], 0⟩
      ∧ t.register.walker = ⟨some .closeWalk, 0, s.register.walker.alarm, [], none, none⟩
      ∧ t.register.records = s.register.records ∧ t.register.amendments = s.register.amendments
      ∧ (s.register.walker.groupBusy = true →
          t.register.group = { s.register.group with state := .stopped })
      ∧ (s.register.walker.groupBusy = false → t.register.group = s.register.group)
      ∧ t.timetable = ⟨s.timetable.tables, s.timetable.current, none, []⟩
      ∧ (∀ e ∈ t.messages.outbound, ∃ h, e.handed = some h ∧ h.afterClose = true)
      ∧ ((s.messages.outbound.map (·.slot)).Nodup →
          (∀ e ∈ s.messages.outbound, ∀ h, e.handed = some h → ∃ d ∈ t.messages.outbound,
            d.slot = e.slot ∧ d.kind = e.kind ∧ d.handed = some { h with afterClose := true })
          ∧ (s.wires.toMessages = [] →
            t.messages = { s.messages with outbound := s.messages.outbound.filterMap (fun e =>
              e.handed.map fun h => { e with handed := some { h with afterClose := true } }) }
            ∧ ∀ e ∈ s.messages.outbound, e.handed = none → (refAt s e.slot).isSome = true →
              alertNow t e.slot = (if e.kind = .alert then .unsent else .delivered)))
      ∧ t.wires.toMessages = []
      ∧ (∀ r kind tag, s.timetable.recompute = some r →
          (s.port r.port).service = .inService kind tag false →
          ∃ a, (t.port r.port).reply = some a ∧ a.head.status = .dayClosed)
      ∧ (∀ h ∈ s.timetable.held, ∀ kind tag, (s.port h.port).service = .inService kind tag false →
          ∃ a, (t.port h.port).reply = some a ∧ a.head.status = .dayClosed)
      ∧ (s.timetable.recompute = none → s.timetable.held = [] →
          t.port f.port = serving f .dayClose (s.port f.port))
      ∧ t.clock = s.clock ∧ t.store = s.store ∧ t.bells = s.bells ∧ t.pupils = s.pupils
      ∧ t.totals = s.totals ∧ t.roll = s.roll ∧ t.lines = s.lines)

/-- R78, R96, R129, R82: a visit of the open walk resets the whole record at its cursor: presence UNKNOWN,
no sign-in, minutes late or sign-out, not confirmed and not returning, the alert state NONE, and each
session cleared, BLANK for a session of the pupil's plan for today and NONE for the other. It applies the
slot's standing notice where it covers today, leaving NOTIFIED with its kind and reason; an expired notice
is removed. Every other slot's record stays, and the cursor advances. That the slot's presence changes
still waiting for the Site Roll go with the record, as its reports do by R132, is the model's choice
(log 11), and so is that after slot 2047 the cursor stands at 2048 until the walk's completion is taken
(log 26). -/
def Obligations.OpenWalkVisitResetsItsSlot : Prop :=
  ∀ (s : State) (c : Nat), s.lines.resetN = true → s.register.walker.hand = some .openWalk →
    s.register.walker.cursor = c → c < 2048 → tableWf noRecord 2048 s.register.records = true →
    ∃ t, exec .openWalkVisit s = .next t
      ∧ t = { s with
          register := { s.register with
            records := t.register.records,
            walker := { s.register.walker with cursor := c + 1 } }
          messages := { s.messages with standing := t.messages.standing }
          wires := { s.wires with
            reports := s.wires.reports.filter (·.slot != c)
            toRoll := s.wires.toRoll.filter (·.slot != c) } }
      ∧ (∀ k, k ≠ c → recordAt t k = recordAt s k)
      ∧ recordAt t c
        = { am := (recordAt t c).session .am, pm := (recordAt t c).session .pm,
            presence := .unknown, signIn := none, minutesLate := none, confirmed := false,
            signOut := none, returning := false, alert := .none }
      ∧ (∀ x, (∀ e, standingOf s c = some e →
            e.sessions.has x = true → e.lastDay < today s ∨ today s < e.firstDay) →
          (recordAt t c).session x
            = { mark := if (slotSessions s c).has x = true then .blank else .none,
                lastSource := none, lastChange := none, notice := none, since := none,
                expectedLate := false, trailGap := false })
      ∧ (∀ e, standingOf s c = some e → e.firstDay ≤ today s → today s ≤ e.lastDay →
          ∀ x, e.sessions.has x = true →
            ((slotSessions s c).has x = true → (recordAt t c).session x
              = { mark := .notified, lastSource := some .notice, lastChange := some (now s),
                  notice := some ⟨e.kind, e.reason⟩, since := none, expectedLate := false,
                  trailGap := false })
            ∧ ((slotSessions s c).has x = false → (recordAt t c).session x
              = { mark := .none, lastSource := none, lastChange := none, notice := none,
                  since := none, expectedLate := false, trailGap := false }))
      ∧ (∀ e, standingOf s c = some e → e.lastDay < today s →
          t.messages.standing = s.messages.standing.filter (·.slot != c))
      ∧ ((∀ e, standingOf s c = some e → today s ≤ e.lastDay) → t.messages = s.messages)

/-- R11, R9, R34, R155: the open walk's completion, with nothing held and no close pending: the day is
OPEN, the current minute is set and every entry at or before it has begun, a roll is started under the
alarm, and the held DAY-OPEN reply is sent. Where no entry is due and no walk waits, the tables, the
bells and the rest of the register stay. What was held, and a pending close, is then taken from there,
one at a time, as if it had arrived at that moment, which is what the request's own command does on its
port: in the order it was held with the close last, or, of one held request and a close, in the order the
command gives (log 14). That the walk stands at cursor 2048 when it completes is the model's form (log
26). -/
def Obligations.OpenWalkCompletesTheOpening : Prop :=
  HeldActsAsItsCommand
  ∧ (∀ (s : State) (order : List Nat), s.lines.resetN = true →
    s.register.walker.hand = some .openWalk → s.register.walker.cursor = 2048 → ∃ u : State,
    exec (.openWalkComplete []) { s with day := { s.day with held := [], closePending := false } }
      = .next u
    ∧ (s.day.closePending = false → exec (.openWalkComplete []) s
      = .next (s.day.held.foldl (fun v h => serveHeld h v) u))
    ∧ (s.day.closePending = true → ∃ v : State, v = s.day.held.foldl (fun v h => serveHeld h v) u
      ∧ exec (.openWalkComplete []) s = .next (takeClosing v)
      ∧ (takeClosing v).day.state = .closing
      ∧ (takeClosing v).day.closeTime = some ⟨s.clock.time, s.clock.day⟩
      ∧ (takeClosing v).register.walker.hand = some .closeWalk)
    ∧ ∀ h, s.day.held = [h] → s.day.closePending = true →
      (order.headD 0 = 1 → exec (.openWalkComplete order) s = .next (serveHeld h (takeClosing u)))
      ∧ (order.headD 0 ≠ 1 →
        exec (.openWalkComplete order) s = .next (takeClosing (serveHeld h u))))
  ∧ ∀ (s : State) (order : List Nat) (d : DayNumber), s.lines.resetN = true →
    s.register.walker.hand = some .openWalk → s.register.walker.cursor = 2048 →
    s.day.state = .opening → s.day.register = some d → s.day.held = [] →
    s.day.closePending = false →
    ∃ t, exec (.openWalkComplete order) s = .next t
      ∧ t.day = { s.day with state := .open, openPort := none }
      ∧ t.roll = (if s.roll.state = .idle ∧ s.roll.alarm = true then ⟨true, .building 0, []⟩
          else s.roll)
      ∧ (∀ m, runningMinute s (s.clock.time / 60) s.clock.day = some m →
          (s.timetable.tables.map (·.plan)).Nodup →
          t.timetable.current = some m
          ∧ (∀ plan u, tableOf t plan = some u → ∀ e ∈ u.entries, e.start ≤ m → e.begun = true)
          ∧ ((∀ u ∈ s.timetable.tables, u.state = .waiting ∧ ∀ e ∈ u.entries,
                e.begun = false ∧ m < e.start) →
              t.timetable.tables = s.timetable.tables ∧ t.bells = s.bells
                ∧ (s.register.walker.waiting = [] →
                    t.register = { s.register with
                      walker := { s.register.walker with hand := none, cursor := 0 } })))
      ∧ (∀ p kind tag, s.day.openPort = some p → (s.port p).service = .inService kind tag false →
          t.port p = { s.port p with
            faults := .none, discarded := 0,
            reply := some ⟨kind ||| 0x80, tag,
              ⟨.ok, (s.port p).faults, (s.port p).discarded, false, s.link.fault.isSome⟩,
              .dayOpened d ((d.toNat + s.store.settings.weekdayBase) % 7) (plansInUse s)⟩ })
      ∧ t.clock = s.clock ∧ t.store = s.store ∧ t.pupils = s.pupils ∧ t.arrivals = s.arrivals
      ∧ t.messages = s.messages ∧ t.totals = s.totals ∧ t.lines = s.lines

/-- R84, R92, R93, R97, R149: a visit of the close walk makes UNEXPLAINED, by FINAL with the close time as
its stamp and no unexplained-since, every session of its ENROLLED slot still BLANK or NOT_SEEN, and a
NOT_SEEN so converted appends its amendment. Every other mark is left, its unexplained-since absent if it
is UNEXPLAINED. It passes the open minutes of each session that was UNEXPLAINED with its unexplained-since
present, up to the close time, and then asks for the fold of the final marks. It raises no alert and tells
no other neighbour anything; the rest of the record and every other slot's record stay, but for the trail
gap of a session whose amendment a full list loses. An EMPTY slot moves the cursor alone. That after slot
2047 the cursor stands at 2048, the walk still in hand, until its completion is taken is the model's
choice (log 26). -/
def Obligations.CloseWalkVisitSettlesItsSlot : Prop :=
  ∀ (s : State) (c : Nat) (close : Stamp), s.lines.resetN = true →
    s.register.walker.hand = some .closeWalk → s.register.walker.cursor = c → c < 2048 →
    s.day.closeTime = some close → tableWf noRecord 2048 s.register.records = true →
    (pupilAt s c = none → exec .closeWalkVisit s = .next
      { s with register := { s.register with
        walker := { s.register.walker with cursor := c + 1 } } })
    ∧ ∀ p, pupilAt s c = some p → ∃ t, exec .closeWalkVisit s = .next t
      ∧ Visited s t c ∧ t.register.group = s.register.group
      ∧ MarksTaken s t c
        ([Session.am, .pm].filter fun y => markOf s c y == .blank || markOf s c y == .notSeen)
        .unexplained .final close none
      ∧ (∀ y, markOf s c y ≠ .blank → markOf s c y ≠ .notSeen → (recordAt t c).session y
          = { (recordAt s c).session y with
              since := if markOf s c y = .unexplained then none
                else ((recordAt s c).session y).since
              trailGap := ((recordAt t c).session y).trailGap })
      ∧ recordAt t c = { recordAt s c with am := (recordAt t c).am, pm := (recordAt t c).pm }
      ∧ t.wires = { s.wires with
          toAccumulators := s.wires.toAccumulators ++ openMinutesOf s c p.ref [.am, .pm] close
            ++ [.fold c p.ref (today s) (markOf t c .am) (markOf t c .pm)] }

/-- R15, R12, R13, R25, R32, R55, R151, R159: the close walk's completion, with nothing held: the day is
CLOSED, tables, plans for today, quiet windows, today-overrides and roll are gone, the term day count
goes up by one and wraps, the walker is IDLE, and the held DAY-CLOSE reply is sent. What was held during
CLOSING is then taken from there, one at a time, as if it had arrived at that moment, which is what the
request's own command does on its port: in the order it was held, or, of two held requests, in the order
the command gives (log 14). That the current minute is then absent is the model's choice (log 16); that
the walk stands at cursor 2048 when it completes is the model's form (log 26). -/
def Obligations.CloseWalkCompletesTheClosing : Prop :=
  HeldActsAsItsCommand
  ∧ (∀ (s : State) (order : List Nat), s.lines.resetN = true →
    s.register.walker.hand = some .closeWalk → s.register.walker.cursor = 2048 →
    s.day.closePending = false → ∃ u : State,
    exec (.closeWalkComplete []) { s with day := { s.day with held := [] } } = .next u
    ∧ exec (.closeWalkComplete []) s = .next (s.day.held.foldl (fun v h => serveHeld h v) u)
    ∧ ∀ h k, s.day.held = [h, k] →
      exec (.closeWalkComplete order) s
        = .next (if order.headD 0 = 1 then serveHeld h (serveHeld k u)
            else serveHeld k (serveHeld h u)))
  ∧ ∀ (s : State) (order : List Nat) (d : DayNumber) (close : Stamp), s.lines.resetN = true →
    s.register.walker.hand = some .closeWalk → s.register.walker.cursor = 2048 →
    s.day.state = .closing → s.day.register = some d → s.day.closeTime = some close →
    s.day.held = [] → s.day.closePending = false → s.register.walker.waiting = [] →
    ∃ t, exec (.closeWalkComplete order) s = .next t
      ∧ t = { s with
          day := { s.day with state := .closed, register := none, closeTime := none,
                              plans := t.day.plans, closePort := none }
          timetable := { s.timetable with tables := [], current := none }
          bells := { s.bells with quiet := t.bells.quiet }
          store := { s.store with cohorts := t.store.cohorts }
          register := { s.register with
            walker := { s.register.walker with hand := none, cursor := 0 } }
          roll := ⟨s.roll.alarm, .idle, []⟩
          totals := { s.totals with termDays := (s.totals.termDays + 1) % 65536 }
          link := t.link }
      ∧ (∀ c : Fin 8, t.day.plans[c] = none) ∧ (∀ n : Fin 8, t.bells.quiet[n] = .empty)
      ∧ (∀ c : Fin 8, t.store.cohorts[c] = { s.store.cohorts[c] with override := .absent })
      ∧ (s.day.closePort = none → t.link = s.link)
      ∧ ∀ p kind tag, s.day.closePort = some p → (s.port p).service = .inService kind tag false →
          t.port p = { s.port p with
            faults := .none, discarded := 0,
            reply := some ⟨kind ||| 0x80, tag,
              ⟨.ok, (s.port p).faults, (s.port p).discarded, false, s.link.fault.isSome⟩,
              .dayClosed d close⟩ }

/-! ### Plans, cohorts and settings -/

/-- R19, R21, R26: a WRITE-PLAN whose content fails a check is answered BAD_FIELD with the name of the
first that fails: RANGE, FLOOR, SECOND_AM, SECOND_PM, PM_BEFORE_AM, PM_WITHOUT_AM, TOO_LONG; one for a
plan in use today outside CLOSED is answered BUSY; any other replaces its plan whole, the revision one on
and after 255 again 0, and no other part of the store. The model's readings (log 17): the entry a check
names is the first that fails it, RANGE is tried on the plan's own fields before its entries, the session
tag of an entry that is not REGISTRATION is not checked, and a write with no entries is checked for its
plan number alone. -/
def Obligations.WritePlanReplacesItsPlan : Prop :=
  (∀ (r : PlanReq) (bad short : EntryReq → Prop) (registers : Session → Nat → Prop),
    (∀ e, bad e ↔ e.kind = none ∨ e.pattern = none ∨ e.nominal = 0 ∨ 180 < e.nominal
      ∨ (e.kind = some .registration ∧ e.tag ≠ .tag .am ∧ e.tag ≠ .tag .pm)) →
    (∀ e, short e ↔ e.compressible = true ∧ (e.floor = 0 ∨ e.nominal < e.floor)) →
    (∀ x i, registers x i ↔ ∃ e, r.entries[i]? = some e ∧ e.kind = some .registration
      ∧ e.tag = .tag x) →
    (r.plan = 0 ∨ 8 < r.plan → planCheck r = some (.range, none))
    ∧ (1 ≤ r.plan → r.plan ≤ 8 →
      (r.entries = [] → r.count = 0 → planCheck r = none)
      ∧ (r.entries ≠ [] ∨ r.count ≠ 0 →
        24 < r.count ∨ r.count ≠ r.entries.length ∨ r.start < 300 ∨ 900 < r.start
          ∨ r.endPattern = none → planCheck r = some (.range, none))
      ∧ (r.entries ≠ [] → r.count ≤ 24 → r.count = r.entries.length → 300 ≤ r.start →
        r.start ≤ 900 → r.endPattern ≠ none →
        (∀ i e, r.entries[i]? = some e → bad e →
          (∀ j d, j < i → r.entries[j]? = some d → ¬ bad d) →
          planCheck r = some (.range, some i))
        ∧ ((∀ e ∈ r.entries, ¬ bad e) →
          (∀ i e, r.entries[i]? = some e → short e →
            (∀ j d, j < i → r.entries[j]? = some d → ¬ short d) →
            planCheck r = some (.floor, some i))
          ∧ ((∀ e ∈ r.entries, ¬ short e) →
            (∀ i j, i < j → registers .am i → registers .am j →
              (∀ k, k < j → registers .am k → k = i) → planCheck r = some (.secondAm, some j))
            ∧ ((∀ i j, registers .am i → registers .am j → i = j) →
              (∀ i j, i < j → registers .pm i → registers .pm j →
                (∀ k, k < j → registers .pm k → k = i) → planCheck r = some (.secondPm, some j))
              ∧ ((∀ i j, registers .pm i → registers .pm j → i = j) →
                (∀ i j, registers .am i → registers .pm j → j < i →
                  planCheck r = some (.pmBeforeAm, some j))
                ∧ (∀ j, registers .pm j → (∀ i, ¬ registers .am i) →
                  planCheck r = some (.pmWithoutAm, none))
                ∧ ((∀ j, registers .pm j → ∃ i, registers .am i ∧ i < j) →
                  planCheck r = (if 1380 < r.start + (r.entries.map (·.nominal)).sum
                    then some (.tooLong, none) else none)))))))))
  ∧ ∀ (s : State) (f : Frame) (r : PlanReq), Ready s f .writePlan →
    (∀ name entry, planCheck r = some (name, entry) →
      exec (.writePlan f r) s
        = .next (s.replied f .writePlan .badField false (.check name entry)))
    ∧ (planCheck r = none → s.day.state ≠ .closed → inUse s r.plan = true →
      exec (.writePlan f r) s = .next (s.replied f .writePlan .busy false .empty))
    ∧ (∀ n : Fin 8, planCheck r = none → (s.day.state = .closed ∨ inUse s r.plan = false) →
      r.plan = n + 1 →
      exec (.writePlan f r) s
        = .next (State.replied f .writePlan .ok (r.entries.any (·.adjusted))
            (.planWritten ⟨r.plan, (s.store.plans[n].revision + 1) % 256, r.body.isSome,
              r.body.map fun b => (sessionSetOf b.entries, b.nominalEnd)⟩)
            { s with store := { s.store with
              plans := s.store.plans.set n ⟨(s.store.plans[n].revision + 1) % 256, r.body⟩ } }))

/-- R22: a WRITE-PLAN that passes every check carries a plan number from 1 to 8 and stores a sound plan
or, with no entries, an invalid one; an entry keeps its fields but for a floor that is not compressible,
which becomes its length, and a grace over 60, which becomes 60 (R20, R21). A plan may have no
REGISTRATION entry, or an AM one alone, and one whose nominal end lies past the auto-close minute is
taken. -/
def Obligations.CheckedPlansAreSound : Prop :=
  (∀ r : PlanReq, planCheck r = none →
    1 ≤ r.plan ∧ r.plan ≤ 8
    ∧ (r.entries = [] → r.count = 0 → r.body = none)
    ∧ (r.entries ≠ [] → ∃ b, r.body = some b ∧ b.sound ∧ b.start = r.start
        ∧ b.endZones = r.endZones ∧ b.entries.length = r.entries.length
        ∧ ∀ (i : Nat) (q : EntryReq), r.entries[i]? = some q →
            ∃ e : Entry, b.entries[i]? = some e ∧ q.kind = some e.kind ∧ e.nominal = q.nominal
              ∧ q.pattern = some e.pattern ∧ e.zones = q.zones
              ∧ e.compressible = q.compressible
              ∧ (q.compressible = true → e.floor = q.floor)
              ∧ (q.compressible = false → e.floor = q.nominal)
              ∧ (e.kind = .registration → e.grace = some (min q.grace 60))))
  ∧ (∃ (r : PlanReq) (b : PlanBody), planCheck r = none ∧ r.body = some b
      ∧ registrationPlaces b.entries .am = [] ∧ registrationPlaces b.entries .pm = [])
  ∧ (∃ (r : PlanReq) (b : PlanBody), planCheck r = none ∧ r.body = some b
      ∧ registrationPlaces b.entries .am ≠ [] ∧ registrationPlaces b.entries .pm = [])
  ∧ ∀ t : Settings, t.autoClose < 1380 → ∃ (r : PlanReq) (b : PlanBody),
      planCheck r = none ∧ r.body = some b ∧ t.autoClose < b.nominalEnd
      ∧ ∀ (s : State) (f : Frame), Ready s f .writePlan → s.day.state = .closed →
          s.store.settings = t → ∃ (u : State) (n : Fin 8),
            exec (.writePlan f r) s = .next u ∧ u.store.plans[n].body = some b

/-- R23, R26, R27: a WRITE-COHORTS passes its checks when it carries one to eight records of cohorts 0 to
7, none twice, with weekday plans 0 to 8 and a today-override absent, NONE or 1 to 8. In CLOSED it then
replaces the records it carries and no others, and outside CLOSED it is answered BUSY. A WRITE-SETTINGS
that passes replaces the whole record, a push length over 30 stored as 30 and adjusted, and outside
CLOSED it is answered BUSY when it changes the weekday base. Either is answered BAD_FIELD when a check
fails. -/
def Obligations.CohortsAndSettingsAreReplaced : Prop :=
  (∀ records : List CohortReq, cohortsOk records = true ↔
    1 ≤ records.length ∧ records.length ≤ 8
    ∧ (∀ r ∈ records, r.cohort ≤ 7 ∧ (∀ d : Fin 7, r.weekdays[d] ≤ 8)
        ∧ ∀ n, r.override = .plan n → 1 ≤ n ∧ n ≤ 8)
    ∧ (records.map (·.cohort)).Nodup)
  ∧ (∀ (s : State) (f : Frame) (records : List CohortReq), Ready s f .writeCohorts →
    (cohortsOk records = false →
      exec (.writeCohorts f records) s
        = .next (s.replied f .writeCohorts .badField false .empty))
    ∧ (cohortsOk records = true → s.day.state ≠ .closed →
      exec (.writeCohorts f records) s = .next (s.replied f .writeCohorts .busy false .empty))
    ∧ (cohortsOk records = true → s.day.state = .closed → ∃ v : Vector Cohort 8,
      exec (.writeCohorts f records) s
          = .next (State.replied f .writeCohorts .ok false .empty
              { s with store := { s.store with cohorts := v } })
        ∧ (∀ (c : Fin 8) (r : CohortReq), r ∈ records → r.cohort = c →
            v[c] = ⟨r.enabled, r.weekdays, r.override⟩)
        ∧ ∀ c : Fin 8, (∀ r ∈ records, r.cohort ≠ c) → v[c] = s.store.cohorts[c]))
  ∧ ∀ (s : State) (f : Frame) (r : SettingsReq), Ready s f .writeSettings →
    (r.autoOpen < 300 ∨ 720 < r.autoOpen ∨ r.autoClose < 900 ∨ 1380 < r.autoClose
        ∨ 6 < r.weekdayBase ∨ r.pushMode = none ∨ r.pushLength = 0 →
      exec (.writeSettings f r) s = .next (s.replied f .writeSettings .badField false .empty))
    ∧ ∀ mode, 300 ≤ r.autoOpen → r.autoOpen ≤ 720 → 900 ≤ r.autoClose → r.autoClose ≤ 1380 →
      r.weekdayBase ≤ 6 → r.pushMode = some mode → r.pushLength ≠ 0 →
      (s.day.state ≠ .closed → r.weekdayBase ≠ s.store.settings.weekdayBase →
        exec (.writeSettings f r) s = .next (s.replied f .writeSettings .busy false .empty))
      ∧ ∀ record : Settings, (s.day.state = .closed
            ∨ r.weekdayBase = s.store.settings.weekdayBase) →
        record = ⟨r.autoOpen, r.autoClose, r.weekdayBase, mode, min r.pushLength 30, r.pushZones,
          r.concern.toNat, r.ignoreSoft⟩ →
        exec (.writeSettings f r) s
          = .next (State.replied f .writeSettings .ok (decide (30 < r.pushLength))
              (.settings record) { s with store := { s.store with settings := record } })

/-- R29, R48, R165: READ-PLAN and READ-TIMETABLE change nothing but the port they answer on. A plan's
entries follow its fixed fields from the start index on, in order and each with its index, at least one
of them when any remains, and the continuation is the index of the first entry not returned; the eight
cohorts are read so too, each with its plan for today. What fits is as R165 gives it. A READ-TIMETABLE
gives each session record of the table with its close minute, fixed or from the entry's start and grace,
close-fixed and close-raised, AM before PM (the model's choice, log 45). A plan with no table is
NOT_FOUND, an index over 23, or over 7 for the cohorts, BAD_FIELD, and READ-TIMETABLE waits for a swap.
-/
def Obligations.PlansAndTimetablesAreReadInParts : Prop :=
  (∀ (s : State) (f : Frame) (start : Nat), Ready s f .readPlan →
    (∀ n : Fin 8, ∀ b, s.store.plans[n].body = some b → start ≤ 23 →
      ∃ part : ListPart EntryItem,
        exec (.readPlan f (.plan (n + 1)) start) s
            = .next (s.replied f .readPlan .ok false
                (.plan ⟨n + 1, true, s.store.plans[n].revision, inUse s (n + 1),
                  some ⟨b.start, b.entries.length, b.endPattern, b.endZones,
                    sessionSetOf b.entries, b.nominalEnd⟩⟩ part))
          ∧ (∀ i : Nat, i < part.items.length → part.items[i]?
              = (b.entries[start + i]?).map fun e => ⟨start + i, e⟩)
          ∧ (start < b.entries.length → part.items ≠ [])
          ∧ part.next = (if start + part.items.length < b.entries.length
              then some (start + part.items.length) else none)
          ∧ ReadFrom (s.port f.port).limit
              (Config.fixedOctets (⟨n + 1, true, s.store.plans[n].revision, inUse s (n + 1),
                some ⟨b.start, b.entries.length, b.endPattern, b.endZones,
                  sessionSetOf b.entries, b.nominalEnd⟩⟩ : PlanRead))
              start (b.entries.mapIdx fun i e => ⟨i, e⟩) part)
    ∧ (∀ n : Fin 8, s.store.plans[n].body = none → start ≤ 23 →
      exec (.readPlan f (.plan (n + 1)) start) s
        = .next (s.replied f .readPlan .ok false
            (.plan ⟨n + 1, false, s.store.plans[n].revision, inUse s (n + 1), none⟩ ⟨[], none⟩)))
    ∧ (start ≤ 7 → ∃ part : ListPart CohortItem,
        exec (.readPlan f .cohorts start) s
            = .next (s.replied f .readPlan .ok false (.cohorts part))
          ∧ ReadFrom (s.port f.port).limit (Config.fixedOctets Kind.readPlan) start
              (s.store.cohorts.toList.mapIdx fun c r => ⟨c, r, cohortPlan s c⟩) part
          ∧ part.items ≠ [])
    ∧ exec (.readPlan f .settings start) s
        = .next (s.replied f .readPlan .ok false (.settings s.store.settings))
    ∧ ∀ selector, selector = .unknown ∨ (selector = .cohorts ∧ 7 < start)
        ∨ (∃ n, selector = .plan n ∧ (n = 0 ∨ 8 < n ∨ 23 < start)) →
      exec (.readPlan f selector start) s
        = .next (s.replied f .readPlan .badField false .empty))
  ∧ ∀ (s : State) (f : Frame) (plan start : Nat), Ready s f .readTimetable →
    (s.day.state = .closed ∨ s.day.state = .closing →
      exec (.readTimetable f plan start) s
        = .next (s.replied f .readTimetable .dayClosed false .empty))
    ∧ (s.day.state = .opening →
      exec (.readTimetable f plan start) s
        = .next (State.serving f .readTimetable
            { s with day := { s.day with
              held := s.day.held ++ [⟨f.port, .readTimetable plan start⟩] } }))
    ∧ (s.day.state = .open → s.timetable.recompute.isSome = true →
      exec (.readTimetable f plan start) s
        = .next (State.serving f .readTimetable
            { s with timetable := { s.timetable with
              held := s.timetable.held ++ [⟨f.port, .readTimetable plan start⟩] } }))
    ∧ (s.day.state = .open → s.timetable.recompute = none →
      (plan = 0 ∨ 8 < plan ∨ 23 < start →
        exec (.readTimetable f plan start) s
          = .next (s.replied f .readTimetable .badField false .empty))
      ∧ (1 ≤ plan → plan ≤ 8 → start ≤ 23 → tableOf s plan = none →
        exec (.readTimetable f plan start) s
          = .next (s.replied f .readTimetable .notFound false .empty))
      ∧ ∀ u, 1 ≤ plan → plan ≤ 8 → start ≤ 23 → tableOf s plan = some u →
        ∃ (fixed : TimetableRead) (part : ListPart EffItem),
          exec (.readTimetable f plan start) s
              = .next (s.replied f .readTimetable .ok false (.timetable fixed part))
            ∧ fixed.plan = plan ∧ fixed.state = u.state ∧ fixed.effEnd = u.effEnd
            ∧ fixed.delayTotal = u.delayTotal ∧ fixed.earlyTotal = u.earlyTotal
            ∧ fixed.shortTotal = u.shortTotal ∧ fixed.current = s.timetable.current
            ∧ fixed.sessions = ([Session.am, .pm].filterMap fun x =>
                (u.session x).map fun r =>
                  ⟨x, match r.fixedClose with
                      | some m => some m
                      | none => (u.registration x).map fun e => e.start + e.entry.grace.getD 0,
                    r.fixedClose.isSome, r.raised⟩)
            ∧ (∀ i : Nat, i < part.items.length → part.items[i]?
                = (u.entries[start + i]?).map fun e => ⟨start + i, e⟩)
            ∧ (start < u.entries.length → part.items ≠ [])
            ∧ part.next = (if start + part.items.length < u.entries.length
                then some (start + part.items.length) else none)
            ∧ ReadFrom (s.port f.port).limit (Config.fixedOctets fixed) start
                (u.entries.mapIdx fun i e => ⟨i, e⟩) part)

/-! ### Timetable compression -/

/-- R41: with nothing to cut no entry is cut; with a cut at or above the whole slack every entry loses
its slack; below it each entry's share is its proportional part rounded down, and as many minutes as then
remain, fewer than the entries with slack, go one each to the entries of the largest remainders, the
earlier first. The cuts add up to the smaller of C and the whole slack, none is above its slack, and a
pass reports the shortfall and the cut total so. -/
def Obligations.CutsShareTheMinutesExactly : Prop :=
  (∀ (cut : Nat) (slacks : List Nat),
    (cuts cut slacks).length = slacks.length
    ∧ (cut = 0 → ∀ x ∈ cuts cut slacks, x = 0)
    ∧ (slacks.sum ≤ cut → cut ≠ 0 → cuts cut slacks = slacks)
    ∧ (cuts cut slacks).sum = min cut slacks.sum
    ∧ (∀ (i a x : Nat), slacks[i]? = some a → (cuts cut slacks)[i]? = some x → x ≤ a)
    ∧ (0 < cut → cut < slacks.sum →
      cut - (slacks.map fun a => cut * a / slacks.sum).sum < slacks.countP (0 < ·)
      ∧ (∀ (i a x : Nat), slacks[i]? = some a → (cuts cut slacks)[i]? = some x →
          x = cut * a / slacks.sum ∨ x = cut * a / slacks.sum + 1)
      ∧ ∀ (i j a b x y : Nat), i < j → slacks[i]? = some a → slacks[j]? = some b →
          (cuts cut slacks)[i]? = some x → (cuts cut slacks)[j]? = some y →
          (y = cut * b / slacks.sum + 1 → x = cut * a / slacks.sum →
            cut * a % slacks.sum < cut * b % slacks.sum)
          ∧ (x = cut * a / slacks.sum + 1 → y = cut * b / slacks.sum →
            cut * b % slacks.sum ≤ cut * a % slacks.sum)))
  ∧ ∀ (u : PlanTable) (delay early c : Nat), c = delayApplied u delay early + early →
    (passResult u delay early).figures.cut = c
      ∧ (passResult u delay early).figures.shortfall = c - u.totalSlack
      ∧ (passResult u delay early).figures.cutTotal
        = (cuts c (u.entries.map EffEntry.slack)).sum

/-- R39, R40, R42, R43: the slack of an entry is its length less its floor, for a future compressible
one, and 0 otherwise; the new length of a future entry is its length less its own cut of R41, and a begun
entry is left as it is. The computation keeps a table laid out: each entry starts where the one before it
ends, its length stays between its floor and its nominal length, begun entries stay as they were, and the
effective end moves by the delay less the cut total. The delay applied is 0 once an entry has begun, and
otherwise the largest, at most the delay asked, that keeps the effective end and every close minute not
yet fixed at or below running minute 2879. -/
def Obligations.CompressionKeepsTablesLaid : Prop :=
  (∀ e : EffEntry,
    (e.begun = false → e.entry.compressible = true → e.slack = e.length - e.entry.floor)
    ∧ (e.begun = true ∨ e.entry.compressible = false → e.slack = 0))
  ∧ (∀ (u : PlanTable) (delay early i : Nat) (e : EffEntry), u.entries[i]? = some e →
    ∃ x v, (cuts (delay + early) (u.entries.map EffEntry.slack))[i]? = some x
      ∧ (compress u delay early).entries[i]? = some v
      ∧ (e.begun = true → v = e)
      ∧ (e.begun = false → v = { e with start := v.start, length := e.length - x }))
  ∧ (∀ (u : PlanTable) (delay early : Nat) (fits : Nat → Prop),
    (∀ d, fits d ↔ u.effEnd + d - min (d + early) (u.entries.map EffEntry.slack).sum ≤ 2879
      ∧ ∀ x r e, u.session x = some r → r.fixedClose = none →
          (compress u d early).registration x = some e →
          e.start + e.entry.grace.getD 0 ≤ 2879) →
    ((∃ e ∈ u.entries, e.begun = true) → delayApplied u delay early = 0)
    ∧ ((∀ e ∈ u.entries, e.begun = false) →
        delayApplied u delay early ≤ delay
        ∧ (delayApplied u delay early ≠ 0 → fits (delayApplied u delay early))
        ∧ ∀ d, d ≤ delay → delayApplied u delay early < d → ¬ fits d))
  ∧ ∀ (u : PlanTable) (delay early : Nat), u.laid →
    (delay = 0 ∨ ∀ e ∈ u.entries, e.begun = false) →
    (compress u delay early).laid
    ∧ (compress u delay early).entries.map (·.entry) = u.entries.map (·.entry)
    ∧ (∀ (i : Nat) (e : EffEntry), u.entries[i]? = some e → e.begun = true →
        (compress u delay early).entries[i]? = some e)
    ∧ ((∃ e ∈ u.entries, e.begun = false) →
        (compress u delay early).effEnd
          = u.effEnd + delay - min (delay + early) (u.entries.map EffEntry.slack).sum)
    ∧ ((∀ e ∈ u.entries, e.begun = true) → (compress u delay early).effEnd = u.effEnd)

/-- R43, R44, R47: every step keeps every effective timetable laid out, its effective end the end of its
last entry, and so the tables that a recompute in flight starts from and works out; and it keeps a
recompute to OPEN. The premise on the Plan Store is an invariant of its own
(EveryStepKeepsThePlanStoreSound). -/
def Obligations.EveryStepKeepsTablesLaid : Prop :=
  ∀ s t : State, s.store.sound → s.timetable.sound → s.recomputesInOpen → step s = .next t →
    t.timetable.sound ∧ t.recomputesInOpen

/-- R38, R39, R44: a SHIFT with an empty set or a plan outside 1 to 8 is answered BAD_FIELD in every day
state; it is held during OPENING and while a recompute is in flight, and answered DAY_CLOSED in CLOSED
and CLOSING. Taken, it brings delay and early close down to 180; a pass starts, from the committed table,
for each plan of the set in use with minutes to apply, the figures of the others stand settled, and with
no such plan it is answered at once. That the figures go in ascending plan order is the model's choice
(log 45). -/
def Obligations.ShiftStartsARecompute : Prop :=
  ∀ (s : State) (f : Frame) (r : ShiftReq), Ready s f .shift →
    (r.plans = [] ∨ (∃ p ∈ r.plans, p = 0 ∨ 8 < p) →
      exec (.shift f r) s = .next (s.replied f .shift .badField false .empty))
    ∧ (r.plans ≠ [] → (∀ p ∈ r.plans, 1 ≤ p ∧ p ≤ 8) →
      (s.day.state = .closed ∨ s.day.state = .closing →
        exec (.shift f r) s = .next (s.replied f .shift .dayClosed false .empty))
      ∧ (s.day.state = .opening →
        exec (.shift f r) s = .next (State.serving f .shift
          { s with day := { s.day with held := s.day.held ++ [⟨f.port, .shift r⟩] } }))
      ∧ (s.day.state = .open → s.timetable.recompute.isSome = true →
        exec (.shift f r) s = .next (State.serving f .shift
          { s with timetable := { s.timetable with
            held := s.timetable.held ++ [⟨f.port, .shift r⟩] } }))
      ∧ (s.day.state = .open → s.timetable.recompute = none →
        ((∀ p ∈ r.plans, ∀ u, tableOf s p = some u →
              delayApplied u (min r.delay 180) (min r.early 180) + min r.early 180 = 0) →
          ∃ (adjusted : Bool) (figures : List ShiftFigures), exec (.shift f r) s
              = .next (s.replied f .shift .ok adjusted (.shifted figures))
            ∧ (adjusted = true ↔ 180 < r.delay ∨ 180 < r.early
                ∨ ∃ p ∈ r.plans, (tableOf s p).isSome = true ∧ r.delay ≠ 0)
            ∧ figures.Pairwise (fun a b => a.plan < b.plan)
            ∧ ∀ x, x ∈ figures ↔ ∃ p ∈ r.plans,
                (tableOf s p = none ∧ x = ⟨p, false, 0, 0, 0, 0, 0, 0, 0, 0, 0⟩)
                ∨ ∃ u, tableOf s p = some u ∧ x = ⟨p, true, 0, 0, 0, 0, 0, u.effEnd,
                    u.delayTotal, u.earlyTotal, u.shortTotal⟩)
        ∧ ((∃ p ∈ r.plans, ∃ u, tableOf s p = some u
              ∧ 0 < delayApplied u (min r.delay 180) (min r.early 180) + min r.early 180) →
          ∃ c : Recompute, exec (.shift f r) s = .next (State.serving f .shift
              { s with timetable := { s.timetable with recompute := some c } })
            ∧ c.port = f.port ∧ c.delay = min r.delay 180 ∧ c.early = min r.early 180
            ∧ (c.adjusted = true ↔ 180 < r.delay ∨ 180 < r.early
                ∨ ∃ p ∈ r.plans, ∃ u, tableOf s p = some u
                  ∧ delayApplied u c.delay c.early + c.early = 0 ∧ c.delay ≠ 0)
            ∧ (∀ x, x ∈ c.settled ↔ ∃ p ∈ r.plans,
                (tableOf s p = none ∧ x = ⟨p, false, 0, 0, 0, 0, 0, 0, 0, 0, 0⟩)
                ∨ ∃ u, tableOf s p = some u ∧ delayApplied u c.delay c.early + c.early = 0
                  ∧ x = ⟨p, true, 0, 0, 0, 0, 0, u.effEnd,
                    u.delayTotal, u.earlyTotal, u.shortTotal⟩)
            ∧ ∀ x, x ∈ c.passes ↔ ∃ p ∈ r.plans, ∃ u, tableOf s p = some u
                ∧ 0 < delayApplied u c.delay c.early + c.early ∧ x = ⟨p, u, none⟩)))

/-- R39, R42, R45, R46: a pass that completes holds what it works out from the table it started from, its
three totals grown by the delay applied, the early close and the shortfall, and no other pass changes.
Once every pass has completed, the swap ends the recompute and answers the SHIFT with the adjusted flag
and, in plan order (the model's choice, log 45), the figures of the plans settled at once and of the last
pass of each other (R38). Each new table then stands with its starts, lengths, end and totals. It keeps,
as they stand in the committed table at that moment and not as the pass met them, the begun flags, the
fixed close minutes, the closes already raised and the plan state; an entry it finds due is begun at
once, and where nothing is due the table is exactly that. So stated for a recompute with nothing held for
it; what was held is then taken from there, one at a time in the order it was held, each as its own
command would be, until one starts a recompute, which those after it wait for. -/
def Obligations.PassesCompleteAndTheSwapIsTaken : Prop :=
  (∀ (s : State) (c : Recompute) (plan : Nat), s.lines.resetN = true →
    s.timetable.recompute = some c → ∃ passes : List Pass,
      exec (.recomputePassComplete plan) s
          = .next { s with timetable := { s.timetable with
              recompute := some { c with passes := passes } } }
        ∧ passes.length = c.passes.length
        ∧ ∀ (i : Nat) (x : Pass), c.passes[i]? = some x → passes[i]?
            = some (if x.plan = plan ∧ x.result = none
                then { x with result := some (passResult x.base c.delay c.early) } else x))
  ∧ (∀ (u : PlanTable) (delay early d : Nat), d = delayApplied u delay early →
      (passResult u delay early).table = compress u d early
      ∧ ((passResult u delay early).reduced = true ↔ d ≠ delay)
      ∧ (∀ total short, total = (u.entries.map EffEntry.slack).sum → short = d + early - total →
          (passResult u delay early).figures
            = ⟨u.plan, true, d, early, d + early, d + early - short, short,
                (compress u d early).effEnd, (compress u d early).delayTotal,
                (compress u d early).earlyTotal, (compress u d early).shortTotal⟩)
      ∧ (compress u d early).delayTotal = min 65535 (u.delayTotal + d)
      ∧ (compress u d early).earlyTotal = min 65535 (u.earlyTotal + early)
      ∧ (compress u d early).shortTotal
        = min 65535 (u.shortTotal + (d + early - (u.entries.map EffEntry.slack).sum))
      ∧ (compress u d early).plan = u.plan
      ∧ (compress u d early).entries.length = u.entries.length)
  ∧ (∀ (s : State) (c : Recompute), s.lines.resetN = true → s.timetable.recompute = some c →
      (∃ x ∈ c.passes, x.result = none) → exec .swap s = .next s)
  ∧ HeldActsAsItsCommand
  ∧ (∀ (s : State) (c : Recompute), s.lines.resetN = true → s.timetable.recompute = some c →
      (∀ x ∈ c.passes, x.result ≠ none) → ∃ u : State,
      exec .swap { s with timetable := { s.timetable with held := [] } } = .next u
      ∧ ∀ (taken left : List Held) (v : State), s.timetable.held = taken ++ left →
        v = taken.foldl (fun w h => serveHeld h w) u →
        (∀ n, n < taken.length →
          ((taken.take n).foldl (fun w h => serveHeld h w) u).timetable.recompute = none) →
        (left = [] → exec .swap s = .next v)
        ∧ (left ≠ [] → v.timetable.recompute ≠ none →
          exec .swap s = .next { v with timetable := { v.timetable with held := left } }))
  ∧ ∀ (s : State) (c : Recompute) (kind tag : Octet), s.lines.resetN = true →
    s.timetable.recompute = some c → s.timetable.held = [] →
    (s.port c.port).service = .inService kind tag false → (c.passes.map (·.plan)).Nodup →
    (∀ x ∈ c.passes, ∃ u y, tableOf s x.plan = some u ∧ x.result = some y
      ∧ y.table.plan = x.plan ∧ y.table.entries.map (·.entry) = u.entries.map (·.entry)) →
    ∃ t, exec .swap s = .next t
      ∧ t = { s with timetable := t.timetable, bells := t.bells, register := t.register,
                     link := t.link }
      ∧ t.timetable.recompute = none ∧ t.timetable.held = []
      ∧ t.timetable.current = s.timetable.current
      ∧ (∃ a figures, (t.port c.port).reply = some a ∧ a.head.status = .ok
          ∧ a.body = .shifted figures ∧ SwapReplies c a.head.adjusted figures)
      ∧ (∀ plan, (∀ x ∈ c.passes, x.plan ≠ plan) → tableOf t plan = tableOf s plan)
      ∧ ∀ x ∈ c.passes, ∀ u y, tableOf s x.plan = some u → x.result = some y →
        ∃ kept v : PlanTable, tableOf t x.plan = some v
          ∧ kept = { y.table with
              entries := (y.table.entries.zip u.entries).map fun e =>
                { e.1 with begun := e.2.begun }
              state := u.state, am := u.am, pm := u.pm }
          ∧ v = { kept with entries := v.entries, state := v.state, am := v.am, pm := v.pm }
          ∧ v.entries = kept.entries.map (fun e => { e with
              begun := e.begun || s.timetable.current.any fun m => decide (e.start ≤ m) })
          ∧ (u.state = .ended → v.state = .ended) ∧ (u.state = .running → v.state ≠ .waiting)
          ∧ (∀ z r, u.session z = some r → ∃ q, v.session z = some q
            ∧ (u.sessionBegun z = true → q.fixedClose = r.fixedClose)
            ∧ (r.raised = true → q.raised = true))
          ∧ ((∀ m, s.timetable.current = some m →
              (∀ e ∈ kept.entries, e.begun = true ∨ m < e.start)
              ∧ (∀ z r close, kept.session z = some r → kept.closeMinute z = some close →
                  r.raised = true ∨ m < close)
              ∧ (kept.state = .running → m < kept.effEnd)) → v = kept)

/-! ### The Pupil Table -/

/-- R62, R64 to R67: a WRITE-PUPIL out of range, or for a slot that holds another reference, is answered
BAD_FIELD with the check; one whose reference another slot holds is answered DUPLICATE with that slot,
and else one whose nonzero card another slot holds with the slot of the card; outside CLOSED a change of
cohort is BUSY, and so is an enrolment but in OPEN. Any other replaces the slot's record whole and no
other slot's; an enrolment in OPEN also resets the slot's register record for today. -/
def Obligations.WritePupilEnrolsOrReplaces : Prop :=
  ∀ (s : State) (f : Frame) (r : PupilReq), Ready s f .writePupil → s.pupils.sound →
    s.canonical →
    (pupilInRange r = true ↔ r.slot ≤ 2047 ∧ r.ref ≠ 0 ∧ r.card ≤ 16777215 ∧ r.cohort ≤ 7
      ∧ r.tutor ≤ 63 ∧ r.route ≤ 31 ∧ r.contacts.length ≤ 3
      ∧ ∀ c ∈ r.contacts, 1 ≤ c.contact ∧ c.contact ≤ 65535 ∧ c.channel ≠ none)
    ∧ (pupilInRange r = false →
      exec (.writePupil f r) s
        = .next (s.replied f .writePupil .badField false (.check .range none)))
    ∧ (∀ q, pupilInRange r = true → pupilAt s r.slot = some q → q.ref ≠ r.ref →
      exec (.writePupil f r) s
        = .next (s.replied f .writePupil .badField false (.check .referenceChange none)))
    ∧ (pupilInRange r = true → (∀ q, pupilAt s r.slot = some q → q.ref = r.ref) →
      ((∃ k q, k ≠ r.slot ∧ pupilAt s k = some q
            ∧ (q.ref = r.ref ∨ (r.card ≠ 0 ∧ q.card = r.card))) →
        ∃ k q, k ≠ r.slot ∧ pupilAt s k = some q
          ∧ (q.ref = r.ref ∨ (r.card ≠ 0 ∧ q.card = r.card))
          ∧ exec (.writePupil f r) s
              = .next (s.replied f .writePupil .duplicate false (.slotHeld k)))
      ∧ (∀ k q, k ≠ r.slot → pupilAt s k = some q → q.ref = r.ref →
        exec (.writePupil f r) s
          = .next (s.replied f .writePupil .duplicate false (.slotHeld k)))
      ∧ (∀ k q, (∀ l d, l ≠ r.slot → pupilAt s l = some d → d.ref ≠ r.ref) →
        k ≠ r.slot → pupilAt s k = some q → r.card ≠ 0 → q.card = r.card →
        exec (.writePupil f r) s
          = .next (s.replied f .writePupil .duplicate false (.slotHeld k)))
      ∧ ((∀ k q, k ≠ r.slot → pupilAt s k = some q →
            q.ref ≠ r.ref ∧ (r.card ≠ 0 → q.card ≠ r.card)) →
        (((pupilAt s r.slot = none ∧ (s.day.state = .opening ∨ s.day.state = .closing))
            ∨ ∃ q, pupilAt s r.slot = some q ∧ s.day.state ≠ .closed ∧ q.cohort ≠ r.cohort) →
          exec (.writePupil f r) s = .next (s.replied f .writePupil .busy false .empty))
        ∧ ((s.day.state = .closed ∨ (s.day.state = .open ∧ pupilAt s r.slot = none)
              ∨ ∃ q, pupilAt s r.slot = some q ∧ q.cohort = r.cohort) →
          ∃ t, exec (.writePupil f r) s
              = .next (State.replied f .writePupil .ok false
                  (.pupilWritten
                    ⟨r.slot, (pupilAt s r.slot).isNone, planTodayOf s r.cohort⟩) t)
            ∧ t = { s with pupils := { s.pupils with pupils := t.pupils.pupils },
                           register := { s.register with records := t.register.records },
                           wires := t.wires }
            ∧ (∃ contacts : List Contact, pupilAt t r.slot
                  = some ⟨r.ref, r.card, r.cohort, r.tutor, r.route, contacts, r.groups⟩
                ∧ contacts.map (fun c => (⟨c.contact, some c.channel⟩ : ContactReq))
                  = r.contacts)
            ∧ (∀ k, k ≠ r.slot → pupilAt t k = pupilAt s k ∧ recordAt t k = recordAt s k)
            ∧ (pupilAt s r.slot ≠ none ∨ s.day.state = .closed →
                t.register = s.register ∧ t.wires = s.wires)
            ∧ (pupilAt s r.slot = none → s.day.state = .open →
                recordAt t r.slot = .reset
                  (if (sessionsToday s r.cohort).am = true then .blank else .none)
                  (if (sessionsToday s r.cohort).pm = true then .blank else .none)))))

/-- R68, R69: CLEAR-PUPIL for a slot over 2047 is answered BAD_FIELD, for a slot that does not hold the
reference NOT_FOUND, and while the roll is not IDLE BUSY, in that order (the model's choice, log 44).
Taken, it makes the slot EMPTY, resets its register record to NONE, zeroes its accumulator record,
removes its standing notice, call list entry and outbound entry, and leaves every other slot. That the
slot's presence changes still waiting for the Site Roll go with the record, as its reports do by R132, is
the model's choice (log 11). -/
def Obligations.ClearPupilClearsEveryPart : Prop :=
  ∀ (s : State) (f : Frame) (slot : Nat) (ref : PupilRef), Ready s f .clearPupil →
    s.pupils.sound → s.canonical →
    (2048 ≤ slot → exec (.clearPupil f slot ref) s
      = .next (s.replied f .clearPupil .badField false .empty))
    ∧ (slot < 2048 → (∀ p, pupilAt s slot = some p → p.ref ≠ ref) →
      exec (.clearPupil f slot ref) s = .next (s.replied f .clearPupil .notFound false .empty))
    ∧ ∀ p, slot < 2048 → pupilAt s slot = some p → p.ref = ref →
      (s.roll.state ≠ .idle →
        exec (.clearPupil f slot ref) s = .next (s.replied f .clearPupil .busy false .empty))
      ∧ (s.roll.state = .idle → ∃ (removed handed : Bool) (t : State),
        exec (.clearPupil f slot ref) s
            = .next (State.replied f .clearPupil .ok false (.pupilCleared slot removed handed) t)
          ∧ t = { s with
              pupils := { s.pupils with pupils := t.pupils.pupils }
              register := { s.register with records := t.register.records }
              totals := { s.totals with records := t.totals.records }
              messages := ⟨s.messages.standing.filter (·.slot != slot),
                s.messages.outbound.filter (·.slot != slot), s.messages.tagCounter,
                s.messages.calls.filter (·.slot != slot)⟩
              wires := { s.wires with
                reports := s.wires.reports.filter (·.slot != slot)
                toRoll := s.wires.toRoll.filter (·.slot != slot) } }
          ∧ (removed = true ↔ ∃ e ∈ s.messages.outbound, e.slot = slot)
          ∧ (handed = true → ∃ e ∈ s.messages.outbound, e.slot = slot ∧ e.handed ≠ none)
          ∧ pupilAt t slot = none ∧ recordAt t slot = .reset .none .none
          ∧ totalsAt t slot = zeroAccumulator
          ∧ ∀ k, k ≠ slot → pupilAt t k = pupilAt s k ∧ recordAt t k = recordAt s k
              ∧ totalsAt t k = totalsAt s k)

/-- R71, R72, with R73 and R76: WRITE-WINDOW replaces its window and answers all eight, BAD_FIELD out of
range. A READ-PUPIL changes nothing but its port. Its list gives the ENROLLED slots from the start slot on,
in slot order, as many as fit (R165), with the slot after the last one, absent when no ENROLLED slot
remains; WINDOWS gives all eight. By card, the lowest-numbered window that agrees with the card
outside its mask derives the slot, its slot base plus the masked bits, and the card matches when that
slot holds it. -/
def Obligations.WindowsDeriveSlotsFromCards : Prop :=
  (∀ (s : State) (f : Frame) (number : Nat) (w : Option CardWindow), Ready s f .writeWindow →
    (7 < number ∨ (∃ v, w = some v
        ∧ (16777215 < v.base ∨ 16777215 < v.mask ∨ 2047 < v.slotBase)) →
      exec (.writeWindow f number w) s
        = .next (s.replied f .writeWindow .badField false .empty))
    ∧ ∀ n : Fin 8, number = n →
      (∀ v, w = some v → v.base ≤ 16777215 ∧ v.mask ≤ 16777215 ∧ v.slotBase ≤ 2047) →
      exec (.writeWindow f number w) s
        = .next (State.replied f .writeWindow .ok false
            (.windows ((s.pupils.windows.set n w).toList.map fun x => x.map fun v =>
              ⟨v, v.slotBase, v.slotBase + v.mask, decide (2047 < v.slotBase + v.mask)⟩))
            { s with pupils := { s.pupils with windows := s.pupils.windows.set n w } }))
  ∧ ∀ (s : State) (f : Frame), Ready s f .readPupil →
    (∀ k, k < 2048 → exec (.readPupil f (.slot k)) s
      = .next (s.replied f .readPupil .ok false (.pupil ⟨k, pupilAt s k,
          (pupilAt s k).bind fun p => planTodayOf s p.cohort⟩)))
    ∧ (∀ selector, selector = .unknown ∨ (∃ k, selector = .slot k ∧ 2047 < k)
        ∨ (∃ k, selector = .list k ∧ 2047 < k)
        ∨ (∃ card, selector = .card card ∧ 16777215 < card) →
      exec (.readPupil f selector) s
        = .next (s.replied f .readPupil .badField false .empty))
    ∧ (∀ ref k p, lookup s ref = some (k, p) → exec (.readPupil f (.reference ref)) s
      = .next (s.replied f .readPupil .ok false (.pupil ⟨k, pupilAt s k,
          (pupilAt s k).bind fun q => planTodayOf s q.cohort⟩)))
    ∧ (∀ ref, lookup s ref = none → exec (.readPupil f (.reference ref)) s
      = .next (s.replied f .readPupil .notFound false .empty))
    ∧ (∀ start, start < 2048 → ∃ part : ListPart PupilView,
        exec (.readPupil f (.list start)) s
            = .next (s.replied f .readPupil .ok false (.pupils part))
          ∧ (∀ v ∈ part.items, start ≤ v.slot ∧ v.pupil = pupilAt s v.slot)
          ∧ ∀ all : List PupilView,
            all = ((enrolled s).filter fun e => decide (start ≤ e.1)).map (fun e =>
              ⟨e.1, pupilAt s e.1, (pupilAt s e.1).bind fun p => planTodayOf s p.cohort⟩) →
            ReadBySlot (s.port f.port).limit (Config.fixedOctets Kind.readPupil) (·.slot) all part)
    ∧ exec (.readPupil f .windows) s
        = .next (s.replied f .readPupil .ok false
            (.windows (s.pupils.windows.toList.map fun x => x.map fun v =>
              ⟨v, v.slotBase, v.slotBase + v.mask, decide (2047 < v.slotBase + v.mask)⟩)))
    ∧ ∀ card, 1 ≤ card → card ≤ 16777215 →
      ((∀ (n : Fin 8) v, s.pupils.windows[n] = some v → card ||| v.mask ≠ v.base ||| v.mask) →
        exec (.readPupil f (.card card)) s
          = .next (s.replied f .readPupil .notFound false (.card .unknown none)))
      ∧ ∀ (n : Fin 8) v slot, s.pupils.windows[n] = some v →
        card ||| v.mask = v.base ||| v.mask →
        (∀ (m : Fin 8) w, m < n → s.pupils.windows[m] = some w →
          card ||| w.mask ≠ w.base ||| w.mask) →
        slot = v.slotBase + (card &&& v.mask) →
        (∀ p, slot < 2048 → pupilAt s slot = some p → p.card = card →
          exec (.readPupil f (.card card)) s
            = .next (s.replied f .readPupil .ok false (.card (.matched slot n p)
                (some ⟨slot, some p, planTodayOf s p.cohort⟩))))
        ∧ (2048 ≤ slot ∨ (∀ p, pupilAt s slot = some p → p.card ≠ card) →
          exec (.readPupil f (.card card)) s
            = .next (s.replied f .readPupil .notFound false (.card (.mismatch n slot) none)))

/-! ### The Day Register and its walks -/

/-- R13, R80, R81, R88, R89, R92, R93: a MARK whose fields pass check 1, PRESENT or NOT_SEEN from a
TERMINAL and any mark code but BLANK from a DESK, a NOTIFIED with its notice kind and reason or with
ABSENT and 0, taken in OPEN for a scheduled session, is decided by the precedence table: a hold answers
HELD and changes nothing, a repeat answers OK and changes nothing but the notice of a NOTIFIED onto
NOTIFIED, and an applied change writes the mark with its source and stamp, the presence the mark makes,
and an amendment unless the mark was BLANK. A full amendment list loses its oldest entry to it, whose
trail gap is set, with the lost count up and TRAIL_OVERRUN reported, before the reply is formed (the
model's choice, log 37). That the notice fields of any other MARK are not checked is the model's reading
(log 30). No other session and no other slot's mark changes. An applied change tells the Message Unit of
a session that leaves or enters UNEXPLAINED, passes the open minutes of one that leaves, and passes a
changed presence to the Site Roll (R79, R83 to R85); nothing else is passed on. The rows of R81 are given
one by one. -/
def Obligations.MarkIsDecidedByPrecedence : Prop :=
  (∀ (source : Source) (mark : Mark),
    precedence .blank source mark = .apply ∧ precedence .notSeen source mark = .apply
    ∧ precedence .present source mark
      = (if source = .teacher ∨ source = .desk then .apply
         else if source = .notice then .conflict else .hold)
    ∧ (∀ m, m = .late ∨ m = .lateClosed ∨ m = .excusedLate →
      precedence m source mark
        = (if source = .desk then .apply else if source = .notice then .conflict else .hold))
    ∧ precedence .notified source mark
      = (if source = .signin ∨ source = .notice ∨ source = .desk ∨ source = .signout
            ∨ (source = .teacher ∧ mark = .present) then .apply else .hold)
    ∧ precedence .authorised source mark = (if source = .desk then .apply else .hold)
    ∧ precedence .offsite source mark
      = (if source = .group ∨ source = .desk then .apply else .hold)
    ∧ precedence .unexplained source mark
      = (if source = .sweep ∨ source = .final then .hold else .apply))
  ∧ (∀ (teacher : Bool) (r : MarkReq),
    (r.session = none ∨ r.mark = none → markContent teacher r = none)
    ∧ ∀ x mark, r.session = some x → r.mark = some mark →
      (teacher = true → markContent teacher r
        = (if mark = .present ∨ mark = .notSeen then some (x, mark, none) else none))
      ∧ (teacher = false →
        (mark = .none ∨ mark = .blank → markContent teacher r = none)
        ∧ (mark ≠ .none → mark ≠ .blank → mark ≠ .notified →
          markContent teacher r = some (x, mark, none))
        ∧ (mark = .notified →
          (r.notice = none → markContent teacher r = some (x, mark, some ⟨.absent, 0⟩))
          ∧ ∀ n, r.notice = some n →
            (n.kind = none ∨ 15 < n.reason → markContent teacher r = none)
            ∧ ∀ k, n.kind = some k → n.reason ≤ 15 →
              markContent teacher r = some (x, mark, some ⟨k, n.reason⟩))))
  ∧ ∀ (s : State) (f : Frame) (r : MarkReq) (teacher : Bool) (source : Source), Ready s f .mark →
    s.canonical → (teacher = true ↔ (s.port f.port).role = .terminal) →
    source = (if teacher = true then .teacher else .desk) →
    (s.day.state = .closed ∨ s.day.state = .closing →
      exec (.mark f r) s = .next (s.replied f .mark .dayClosed false .empty))
    ∧ (s.day.state = .opening →
      exec (.mark f r) s = .next (State.serving f .mark
        { s with day := { s.day with held := s.day.held ++ [⟨f.port, .mark r⟩] } }))
    ∧ (s.day.state = .open → markContent teacher r = none →
      exec (.mark f r) s = .next (s.replied f .mark .badField false .empty))
    ∧ ∀ x mark notice, s.day.state = .open → markContent teacher r = some (x, mark, notice) →
      (lookup s r.ref = none →
        exec (.mark f r) s = .next (s.replied f .mark .notFound false .empty))
      ∧ ∀ slot p, lookup s r.ref = some (slot, p) → pupilAt s slot = some p →
        (markOf s slot x = .none →
          exec (.mark f r) s = .next (s.replied f .mark .notScheduled false .empty))
        ∧ (markOf s slot x ≠ .none → teacher = true →
          (∃ plan, cohortPlan s p.cohort = some plan ∧ closedFor s plan x = true) →
          exec (.mark f r) s = .next (s.replied f .mark .registerClosed false .empty))
        ∧ (markOf s slot x ≠ .none →
          (teacher = true → ∀ plan, cohortPlan s p.cohort = some plan →
            closedFor s plan x = false) →
          (precedence (markOf s slot x) source mark ≠ .apply →
            exec (.mark f r) s = .next (s.replied f .mark .held false
              (.marked ⟨slot, x, markOf s slot x, markOf s slot x, false,
                (recordAt s slot).presence,
                ((recordAt s slot).session x).notice.map (·.kind)⟩)))
          ∧ (precedence (markOf s slot x) source mark = .apply → mark = markOf s slot x →
            mark ≠ .notified →
            exec (.mark f r) s = .next (s.replied f .mark .ok false
              (.marked ⟨slot, x, mark, mark, true, (recordAt s slot).presence,
                ((recordAt s slot).session x).notice.map (·.kind)⟩)))
          ∧ (precedence (markOf s slot x) source mark = .apply →
            mark ≠ markOf s slot x ∨ mark = .notified → ∃ (reply : MarkReply) (t : State),
            exec (.mark f r) s = .next (State.replied f .mark .ok false (.marked reply) t)
              ∧ t = { s with register := t.register, wires := t.wires,
                             link := { s.link with fault := t.link.fault, more := t.link.more } }
              ∧ reply.slot = slot ∧ reply.session = x ∧ reply.before = markOf s slot x
              ∧ reply.standing = mark ∧ (reply.repeated = true ↔ mark = markOf s slot x)
              ∧ reply.presence = (recordAt t slot).presence
              ∧ markOf t slot x = mark
              ∧ ((recordAt t slot).session x).lastSource = some source
              ∧ ((recordAt t slot).session x).lastChange = some (now s)
              ∧ (mark = .notified → ((recordAt t slot).session x).notice = notice)
              ∧ (∀ y, y ≠ x → markOf t slot y = markOf s slot y)
              ∧ (∀ k y, k ≠ slot → markOf t k y = markOf s k y)
              ∧ (recordAt t slot).presence
                = (if mark = markOf s slot x then (recordAt s slot).presence
                   else (presenceOf mark).getD (recordAt s slot).presence)
              ∧ (mark ≠ markOf s slot x → markOf s slot x ≠ .blank →
                  t.register.amendments.getLast?
                    = some ⟨slot, x, markOf s slot x, mark, source, now s⟩
                  ∧ AmendmentAppended s t ⟨slot, x, markOf s slot x, mark, source, now s⟩)
              ∧ (mark = markOf s slot x ∨ markOf s slot x = .blank →
                  t.register.amendments = s.register.amendments
                  ∧ t.register.lost = s.register.lost ∧ t.link = s.link)
              ∧ t.register.walker = s.register.walker
              ∧ (mark = markOf s slot x → t.wires = s.wires)
              ∧ (mark ≠ markOf s slot x →
                ((recordAt t slot).session x).since
                  = (if mark = .unexplained then some (now s) else none)
                ∧ t.wires = { s.wires with
                  toMessages := s.wires.toMessages
                    ++ (if markOf s slot x = .unexplained then [.leave slot p.ref x mark] else [])
                    ++ (if mark = .unexplained then [.raise slot p.ref x] else [])
                  toAccumulators := s.wires.toAccumulators
                    ++ (if markOf s slot x = .unexplained then
                          (((recordAt s slot).session x).since.map fun since =>
                            .openMinutes slot p.ref (secondsBetween since (now s) / 60)).toList
                        else [])
                  toRoll := s.wires.toRoll
                    ++ (if (recordAt t slot).presence = (recordAt s slot).presence then []
                        else [⟨slot, (recordAt t slot).presence⟩]) })))

/-- R90, R116 to R118: a GROUP-MARK with no group, cohort or session, or of another mark than OFFSITE or
AUTHORISED, is BAD_FIELD; any other, in OPEN with none owed, is answered OK and joins the queue, its
outcome record taking its contents; an IDLE walker with nothing waiting takes it at once. A sweep or
group walk that has visited the last slot completes, the outcome of a group walk then DONE, and the walker
takes the waiting item that goes before the others, which leaves the queue, a group mark's outcome then
RUNNING: the one of the earliest due stamp, of equal ones a session sweep, by plan and AM
before PM, then the route sweep, then the group mark. That a walk which has visited slot 2047 stands in
hand at cursor 2048 until its WALK_COMPLETE, and a GROUP-MARK meanwhile is BUSY, is the model's choice
(log 26). -/
def Obligations.GroupMarksQueueAndWalksComplete : Prop :=
  TheFirstItemIsTaken
  ∧ (∀ r : GroupMarkReq,
    (r.groups = 0 ∨ r.cohorts = 0 ∨ r.sessions = ⟨false, false⟩
        ∨ (r.mark ≠ some .offsite ∧ r.mark ≠ some .authorised) → groupContents r = none)
    ∧ ∀ m, r.groups ≠ 0 → r.cohorts ≠ 0 → r.sessions ≠ ⟨false, false⟩ → r.mark = some m →
      m = .offsite ∨ m = .authorised →
      groupContents r = some ⟨r.groups, r.cohorts, r.sessions, m⟩)
  ∧ (∀ (s : State) (f : Frame) (r : GroupMarkReq), Ready s f .groupMark →
    (groupContents r = none →
      exec (.groupMark f r) s = .next (s.replied f .groupMark .badField false .empty))
    ∧ ∀ c, groupContents r = some c →
      (s.day.state = .closed ∨ s.day.state = .closing →
        exec (.groupMark f r) s = .next (s.replied f .groupMark .dayClosed false .empty))
      ∧ (s.day.state = .opening → exec (.groupMark f r) s = .next (State.serving f .groupMark
        { s with day := { s.day with held := s.day.held ++ [⟨f.port, .groupMark r⟩] } }))
      ∧ (s.day.state = .open → s.register.walker.groupBusy = true →
        exec (.groupMark f r) s = .next (s.replied f .groupMark .busy false .empty))
      ∧ (s.day.state = .open → s.register.walker.groupBusy = false →
        (s.register.walker.hand ≠ none ∨ s.register.walker.alarm = true →
          exec (.groupMark f r) s = .next (State.replied f .groupMark .ok false .empty
            { s with register := { s.register with
              walker := { s.register.walker with group := some ⟨c, now s⟩ }
              group := ⟨.queued, some c, 0, 0, 0⟩ } }))
        ∧ (s.register.walker.hand = none → s.register.walker.alarm = false →
          s.register.walker.waiting = [] →
          exec (.groupMark f r) s = .next (State.replied f .groupMark .ok false .empty
            { s with register := { s.register with
              walker := ⟨some (.item (.group ⟨c, now s⟩)), 0, false, [], none, none⟩
              group := ⟨.running, some c, 0, 0, 0⟩ } }))))
  ∧ ∀ (s : State) (i : WalkItem), s.lines.resetN = true →
    s.register.walker.hand = some (.item i) →
    (s.register.walker.cursor ≠ 2048 → exec .walkComplete s = .next s)
    ∧ (s.register.walker.cursor = 2048 → ∃ t, exec .walkComplete s = .next t
      ∧ t = { s with register := { s.register with
          walker := t.register.walker, group := t.register.group } }
      ∧ (s.register.walker.waiting = [] ∨ s.register.walker.alarm = true →
          t.register.walker = { s.register.walker with hand := none, cursor := 0 }
          ∧ (∀ g, i = .group g → t.register.group = { s.register.group with state := .done })
          ∧ ((∀ g, i ≠ .group g) → t.register.group = s.register.group))
      ∧ ∀ j, firstBy WalkItem.before s.register.walker.waiting = some j →
          s.register.walker.alarm = false →
          (∀ g, i = .group g →
            TakesItem { s.register with group := { s.register.group with state := .done } }
              t.register j)
          ∧ ((∀ g, i ≠ .group g) → TakesItem s.register t.register j))

/-- R79, R81, R84, R85, R91 to R93, R118 to R121: while its walk is in hand and the alarm clear, a session
sweep visit makes UNEXPLAINED, and raises an alert for, a BLANK or NOT_SEEN session of a pupil of its plan
whose route is not held; a route sweep visit does so for each closed session of a pupil on its routes, AM
before PM; a group walk visit decides its mark for each of its sessions and counts it applied, held, or,
for a session the pupil lacks, skipped. An applied change writes SWEEP or GROUP and the stamp of the visit,
a SWEEP the unexplained-since too, and appends an amendment unless the old mark was BLANK. A group change
out of UNEXPLAINED passes its open minutes and tells the Message Unit; one to OFFSITE takes the pupil off
site, passed to the Site Roll where that is a change, one to AUTHORISED leaves the presence. Nothing else
is told. Every visit moves the cursor on, and the rest of the record and every other slot's record stay,
but for the trail gap of a session whose amendment a full list loses; under the alarm none is made (R122).
That after slot 2047 the cursor stands at 2048, the walk still in hand, until its completion is taken is
the model's choice (log 26). -/
def Obligations.WalkVisitsActOnTheirSlot : Prop :=
  ∀ (s : State) (c : Nat), s.lines.resetN = true → s.canonical →
    s.register.walker.cursor = c → c < 2048 →
    (∀ i, s.register.walker.hand = some (.item i) → s.register.walker.alarm = true →
      exec .sessionSweepVisit s = .next s ∧ exec .routeSweepVisit s = .next s
        ∧ exec .groupWalkVisit s = .next s)
    ∧ (∀ i, s.register.walker.hand = some (.item (.session i)) →
      s.register.walker.alarm = false → ∃ t, exec .sessionSweepVisit s = .next t
      ∧ Visited s t c ∧ t.register.group = s.register.group
      ∧ (∀ y, y ≠ i.session → (recordAt t c).session y
          = { (recordAt s c).session y with trailGap := ((recordAt t c).session y).trailGap })
      ∧ recordAt t c = { recordAt s c with am := (recordAt t c).am, pm := (recordAt t c).pm }
      ∧ (∀ p, pupilAt s c = some p → cohortPlan s p.cohort = some i.plan →
          routeHeld s p.route = false →
          markOf s c i.session = .blank ∨ markOf s c i.session = .notSeen →
          MarksTaken s t c [i.session] .unexplained .sweep (now s) (some (now s))
          ∧ t.wires = { s.wires with toMessages :=
                s.wires.toMessages ++ [.raise c p.ref i.session] })
      ∧ (pupilAt s c = none ∨ (∃ p, pupilAt s c = some p
            ∧ (cohortPlan s p.cohort ≠ some i.plan ∨ routeHeld s p.route = true))
          ∨ (markOf s c i.session ≠ .blank ∧ markOf s c i.session ≠ .notSeen) →
          t.register.records = s.register.records
            ∧ t.register.amendments = s.register.amendments ∧ t.register.lost = s.register.lost
            ∧ t.wires = s.wires ∧ t.link = s.link))
    ∧ (∀ i, s.register.walker.hand = some (.item (.route i)) →
      s.register.walker.alarm = false → ∃ t, exec .routeSweepVisit s = .next t
      ∧ Visited s t c ∧ t.register.group = s.register.group
      ∧ recordAt t c = { recordAt s c with am := (recordAt t c).am, pm := (recordAt t c).pm }
      ∧ (∀ p today swept, pupilAt s c = some p → planTodayOf s p.cohort = some today →
          p.route ≠ 0 → i.routes.getLsbD p.route = true → routeHeld s p.route = false →
          swept = [Session.am, .pm].filter (fun y => today.sessions.has y
            && closedFor s today.plan y
            && (markOf s c y == .blank || markOf s c y == .notSeen)) →
          MarksTaken s t c swept .unexplained .sweep (now s) (some (now s))
          ∧ (∀ y, y ∉ swept → (recordAt t c).session y
              = { (recordAt s c).session y with trailGap := ((recordAt t c).session y).trailGap })
          ∧ t.wires = { s.wires with
              toMessages := s.wires.toMessages ++ swept.map fun y => .raise c p.ref y })
      ∧ (pupilAt s c = none ∨ (∃ p, pupilAt s c = some p
            ∧ (p.route = 0 ∨ i.routes.getLsbD p.route = false ∨ routeHeld s p.route = true
              ∨ planTodayOf s p.cohort = none)) →
          t.register.records = s.register.records
            ∧ t.register.amendments = s.register.amendments ∧ t.register.lost = s.register.lost
            ∧ t.wires = s.wires ∧ t.link = s.link))
    ∧ ∀ i, s.register.walker.hand = some (.item (.group i)) →
      s.register.walker.alarm = false → ∃ t, exec .groupWalkVisit s = .next t
      ∧ Visited s t c
      ∧ (∀ p changed, pupilAt s c = some p → p.groups &&& i.contents.groups ≠ 0 →
          i.contents.cohorts.getLsbD p.cohort = true →
          changed = i.contents.sessions.list.filter (fun y => markOf s c y != .none
            && precedence (markOf s c y) .group i.contents.mark == .apply
            && markOf s c y != i.contents.mark) →
          MarksTaken s t c changed i.contents.mark .group (now s) none
          ∧ (∀ y, y ∉ changed → (recordAt t c).session y
              = { (recordAt s c).session y with trailGap := ((recordAt t c).session y).trailGap })
          ∧ t.register.group = { s.register.group with
            applied := s.register.group.applied + i.contents.sessions.list.countP fun y =>
              markOf s c y != .none && precedence (markOf s c y) .group i.contents.mark == .apply
            held := s.register.group.held + i.contents.sessions.list.countP fun y =>
              markOf s c y != .none && precedence (markOf s c y) .group i.contents.mark != .apply
            skipped := s.register.group.skipped + i.contents.sessions.list.countP fun y =>
              markOf s c y == .none }
          ∧ t.wires = { s.wires with
              toMessages := s.wires.toMessages ++ (changed.filter fun y =>
                markOf s c y == .unexplained).map fun y => .leave c p.ref y i.contents.mark
              toAccumulators := s.wires.toAccumulators
                ++ openMinutesOf s c p.ref changed (now s)
              toRoll := t.wires.toRoll }
          ∧ (changed = [] ∨ i.contents.mark = .authorised →
              t.wires.toRoll = s.wires.toRoll
              ∧ recordAt t c
                = { recordAt s c with am := (recordAt t c).am, pm := (recordAt t c).pm })
          ∧ (changed ≠ [] → i.contents.mark = .offsite →
              t.wires.toRoll = (if (recordAt s c).presence = .offSite then s.wires.toRoll
                else s.wires.toRoll ++ [⟨c, .offSite⟩])
              ∧ recordAt t c
                = { recordAt s c with
                    am := (recordAt t c).am, pm := (recordAt t c).pm, presence := .offSite }))
      ∧ (pupilAt s c = none ∨ (∃ p, pupilAt s c = some p
            ∧ (p.groups &&& i.contents.groups = 0
              ∨ i.contents.cohorts.getLsbD p.cohort = false)) →
          t.register = { s.register with walker := { s.register.walker with cursor := c + 1 } }
            ∧ t.wires = s.wires ∧ t.link = s.link)

/-- R13, R94, R95: READ-REGISTER and READ-CHANGES wait during OPENING and CLOSING. A READ-REGISTER
changes nothing but its port: by slot or reference it gives the whole record with the plan for today, its
list the ENROLLED slots from the start slot on that pass the filter, or all of them with none, in slot
order, as many as fit (R165), with the slot after the last one, absent when no slot of the list remains
(log 21), each item with the plan for today too (the model's choice, log 48), and its summary counts each
mark over the ENROLLED slots and each presence over all 2048. READ-CHANGES takes the entries it returns,
as many as fit and at least one when there is any, off the front of the amendment list, and clears the
lost count. -/
def Obligations.RegisterReadsAndChanges : Prop :=
  (∀ (s : State) (f : Frame) (selector : RegisterSelector), Ready s f .readRegister →
    (s.day.state = .opening ∨ s.day.state = .closing →
      exec (.readRegister f selector) s = .next (State.serving f .readRegister
        { s with day := { s.day with
          held := s.day.held ++ [⟨f.port, .readRegister selector⟩] } }))
    ∧ (s.day.state = .closed ∨ s.day.state = .open →
      (∀ k, selector = .slot k → k < 2048 → exec (.readRegister f selector) s
        = .next (s.replied f .readRegister .ok false
            (.register ⟨k, recordAt s k, pupilPlan s k⟩)))
      ∧ (∀ ref k p, selector = .reference ref → lookup s ref = some (k, p) →
        exec (.readRegister f selector) s
          = .next (s.replied f .readRegister .ok false
              (.register ⟨k, recordAt s k, pupilPlan s k⟩)))
      ∧ (∀ ref, selector = .reference ref → lookup s ref = none →
        exec (.readRegister f selector) s
          = .next (s.replied f .readRegister .notFound false .empty))
      ∧ (selector = .unknown ∨ (∃ k, selector = .slot k ∧ 2047 < k)
          ∨ (∃ k filter, selector = .list k filter ∧ 2047 < k)
          ∨ (∃ k marks, selector = .list k (some ⟨none, marks⟩)) →
        exec (.readRegister f selector) s
          = .next (s.replied f .readRegister .badField false .empty))
      ∧ (selector = .summary → ∃ fields : RegisterSummary,
        exec (.readRegister f selector) s
            = .next (s.replied f .readRegister .ok false (.summary fields))
          ∧ fields.onSite + fields.offSite + fields.unknown = 2048
          ∧ fields.onSite
            = (List.range 2048).countP (fun k => (recordAt s k).presence == .onSite)
          ∧ fields.offSite
            = (List.range 2048).countP (fun k => (recordAt s k).presence == .offSite)
          ∧ fields.unknown
            = (List.range 2048).countP (fun k => (recordAt s k).presence == .unknown)
          ∧ (∀ count : Session → Mark → Nat,
            (∀ x m, count x m = (enrolled s).countP fun e => markOf s e.1 x == m) →
            fields.am = ⟨count .am .none, count .am .blank, count .am .present,
              count .am .notSeen, count .am .late, count .am .lateClosed, count .am .excusedLate,
              count .am .notified, count .am .authorised, count .am .offsite,
              count .am .unexplained⟩
            ∧ fields.pm = ⟨count .pm .none, count .pm .blank, count .pm .present,
              count .pm .notSeen, count .pm .late, count .pm .lateClosed, count .pm .excusedLate,
              count .pm .notified, count .pm .authorised, count .pm .offsite,
              count .pm .unexplained⟩)
          ∧ fields.amendments = s.register.amendments.length
          ∧ fields.lost = s.register.lost ∧ fields.closed = s.register.closed
          ∧ fields.group = s.register.group)
      ∧ (∀ start x marks, start < 2048 → selector = .list start (some ⟨some x, marks⟩) →
        ∃ part : ListPart RegisterView, exec (.readRegister f selector) s
            = .next (s.replied f .readRegister .ok false (.registers part))
          ∧ (∀ v ∈ part.items, start ≤ v.slot ∧ markOf s v.slot x ∈ marks
              ∧ v.record = recordAt s v.slot ∧ ∃ p, (v.slot, p) ∈ enrolled s)
          ∧ ∀ all : List RegisterView,
            all = ((enrolled s).filter fun e =>
                decide (start ≤ e.1) && decide (markOf s e.1 x ∈ marks)).map
              (fun e => ⟨e.1, recordAt s e.1, pupilPlan s e.1⟩) →
            ReadBySlot (s.port f.port).limit (Config.fixedOctets Kind.readRegister) (·.slot) all part)
      ∧ ∀ start, start < 2048 → selector = .list start none →
        ∃ part : ListPart RegisterView, exec (.readRegister f selector) s
            = .next (s.replied f .readRegister .ok false (.registers part))
          ∧ ∀ all : List RegisterView,
            all = ((enrolled s).filter fun e => decide (start ≤ e.1)).map
              (fun e => ⟨e.1, recordAt s e.1, pupilPlan s e.1⟩) →
            ReadBySlot (s.port f.port).limit (Config.fixedOctets Kind.readRegister) (·.slot) all part))
  ∧ ∀ (s : State) (f : Frame), Ready s f .readChanges →
    (s.day.state = .opening ∨ s.day.state = .closing →
      exec (.readChanges f) s = .next (State.serving f .readChanges
        { s with day := { s.day with held := s.day.held ++ [⟨f.port, .readChanges⟩] } }))
    ∧ (s.day.state = .closed ∨ s.day.state = .open → ∃ items left : List Amendment,
      exec (.readChanges f) s
          = .next (State.replied f .readChanges .ok false
              (.changes ⟨s.register.lost, s.register.amendments.length⟩ items)
              { s with register := { s.register with amendments := left, lost := 0 } })
        ∧ s.register.amendments = items ++ left
        ∧ (s.register.amendments ≠ [] → items ≠ [])
        ∧ FitsReply (s.port f.port).limit
            (Config.fixedOctets
              (⟨s.register.lost, s.register.amendments.length⟩ : ChangesRead))
            s.register.amendments items)

/-! ### Late arrivals -/

/-- R101 to R104: a sign-in's running second counts from the register day, over the day after it too, and
one stamped any other day is AFTER_HOURS. At running second t, for a plan with a table and an AM
registration entry, a sign-in is AFTER_HOURS from the effective end on, PRESENT before the AM entry's
start, and otherwise late for PM from the PM entry's start on and for AM before it. A late target's
minutes are the seconds past its threshold divided by 60 and rounded up, kept within 1 to 255; it is
EXCUSED_LATE with a notice of LATE_EXPECTED or a held route, LATE before the close and LATE_CLOSED from
it on. A cohort with no sessions today, or no table, is NOT_SCHEDULED. -/
def Obligations.SignInsAreClassified : Prop :=
  ∀ (s : State) (slot : Nat) (p : Pupil) (stamp : Stamp),
    ((∀ today, planTodayOf s p.cohort = some today →
        today.sessions = ⟨false, false⟩ ∨ tableOf s today.plan = none) →
      classify s slot p stamp = .notScheduled)
    ∧ (∀ d, s.day.register = some d →
      (stamp.day = d → runningSecond s stamp = some stamp.time)
      ∧ (stamp.day = d + 1 → runningSecond s stamp = some (86400 + stamp.time))
      ∧ (stamp.day ≠ d → stamp.day ≠ d + 1 → ∀ (today : PlanToday) (u : PlanTable),
        planTodayOf s p.cohort = some today → today.sessions ≠ ⟨false, false⟩ →
        tableOf s today.plan = some u → classify s slot p stamp = .afterHours))
    ∧ ∀ (today : PlanToday) (u : PlanTable) (am : EffEntry) (t : Nat),
      planTodayOf s p.cohort = some today → today.sessions ≠ ⟨false, false⟩ →
      tableOf s today.plan = some u → u.registration .am = some am →
      runningSecond s stamp = some t →
      (60 * u.effEnd ≤ t → classify s slot p stamp = .afterHours)
      ∧ (t < 60 * u.effEnd → t < 60 * am.start → classify s slot p stamp = .present)
      ∧ ∀ (x : Session) (reg : EffEntry) (close minutes : Nat), t < 60 * u.effEnd →
        60 * am.start ≤ t →
        (x = .am ∧ reg = am ∧ (∀ pm, u.registration .pm = some pm → t < 60 * pm.start)
          ∨ x = .pm ∧ u.registration .pm = some reg ∧ 60 * reg.start ≤ t) →
        u.closeMinute x = some close →
        minutes = (t - 60 * reg.start + 59) / 60 →
        ∃ (arrival : ArrivalClass) (excuse : Option Excuse),
          classify s slot p stamp
              = .late x arrival ⟨reg.start, close, max 1 (min 255 minutes)⟩ excuse
                  (decide (255 < minutes))
            ∧ (((recordAt s slot).session x).noticeIs .lateExpected = true →
                excuse = some .notice)
            ∧ (((recordAt s slot).session x).noticeIs .lateExpected = false →
                ∀ h, p.route ≠ 0 → holdAt s p.route = some h →
                excuse = some (.route p.route h.expiry))
            ∧ (((recordAt s slot).session x).noticeIs .lateExpected = false →
                p.route = 0 ∨ holdAt s p.route = none → excuse = none)
            ∧ (excuse ≠ none → arrival = .excusedLate)
            ∧ (excuse = none → t < 60 * close → arrival = .late)
            ∧ (excuse = none → 60 * close ≤ t → arrival = .lateClosed)

/-- R13, R74, R99, R100, R107: a SIGN-IN is held during OPENING and answered DAY_CLOSED in CLOSED and
CLOSING. In OPEN, a card out of range is BAD_FIELD; one that no window claims, or whose slot does not
hold it, is answered NOT_FOUND and then reported as a fault, with the derived slot up to 2047 and the card
otherwise; a second sign-in of a pupil on site is answered DUPLICATE with the earlier one; a pupil who
comes back from a sign-out is on site again with no mark changed; and so is one whose class is AFTER_HOURS
or NOT_SCHEDULED. That the report of a retry goes before the answer and the fault of a failed match is the
model's choice (log 31). -/
def Obligations.SignInsWithoutAProposal : Prop :=
  ∀ (s : State) (f : Frame) (r : SignInReq), Ready s f .signIn → s.canonical →
    (s.day.state = .closed ∨ s.day.state = .closing →
      exec (.signIn f r) s = .next (s.replied f .signIn .dayClosed false .empty))
    ∧ (s.day.state = .opening → exec (.signIn f r) s = .next (State.serving f .signIn
        { s with day := { s.day with held := s.day.held ++ [⟨f.port, .signIn r⟩] } }))
    ∧ (s.day.state = .open →
      (∀ card retry, (s.port f.port).role = .kiosk → r = .byCard card retry →
        (card = 0 ∨ 16777215 < card →
          exec (.signIn f r) s = .next (s.replied f .signIn .badField false .empty))
        ∧ (1 ≤ card → card ≤ 16777215 → cardMatch s card = .unknown →
          exec (.signIn f r) s
            = .next (reportFault ⟨.unknownCard, some f.port, some (.card card), now s⟩
                (State.replied f .signIn .notFound false .empty (s.afterRetry f r))))
        ∧ ∀ window slot, 1 ≤ card → card ≤ 16777215 → cardMatch s card = .mismatch window slot →
          exec (.signIn f r) s
            = .next (reportFault ⟨.cardMismatch, some f.port,
                  some (if slot < 2048 then .slot slot else .card card), now s⟩
                (State.replied f .signIn .notFound false .empty (s.afterRetry f r))))
      ∧ (∀ ref, (s.port f.port).role = .desk → r = .byReference ref → lookup s ref = none →
        exec (.signIn f r) s = .next (s.replied f .signIn .notFound false .empty))
      ∧ (∀ slot p confirmed earlier, signInNames s f r slot p confirmed →
        (recordAt s slot).presence = .onSite → (recordAt s slot).signIn = some earlier →
        exec (.signIn f r) s = .next (State.replied f .signIn .duplicate false
          (.earlierSlip ⟨slot, p.ref, p.cohort, p.tutor, earlier, (recordAt s slot).confirmed,
            (recordAt s slot).minutesLate, markOf s slot .am, markOf s slot .pm⟩)
          (s.afterRetry f r)))
      ∧ (∀ slot p confirmed arrival status, signInNames s f r slot p confirmed →
        ((recordAt s slot).presence = .onSite → (recordAt s slot).signIn = none) →
        ((recordAt s slot).presence = .offSite → (recordAt s slot).returning = false) →
        (classify s slot p (now s) = .afterHours ∧ arrival = .afterHours ∧ status = .ok)
          ∨ (classify s slot p (now s) = .notScheduled ∧ arrival = .notScheduled
            ∧ status = .notScheduled) →
        ∃ (slip : Slip) (t : State),
          exec (.signIn f r) s = .next (State.replied f .signIn status false (.slip slip) t)
          ∧ t = { s.afterRetry f r with
                         register := { s.register with records := t.register.records }
                         wires := { s.wires with
                           toRoll := if (recordAt s slot).presence = .onSite then s.wires.toRoll
                             else s.wires.toRoll ++ [⟨slot, .onSite⟩] } }
          ∧ recordAt t slot = { recordAt s slot with
              presence := .onSite, signIn := some (now s), minutesLate := none,
              returning := decide ((recordAt s slot).presence = .onSite)
                && (recordAt s slot).returning
              confirmed := confirmed }
          ∧ (∀ k, k ≠ slot → recordAt t k = recordAt s k)
          ∧ slip.arrival = arrival ∧ slip.target = none ∧ slip.outcome = none ∧ slip.late = none
          ∧ slip.slot = slot ∧ slip.ref = p.ref ∧ slip.stamp = now s)
      ∧ ∀ slot p confirmed, signInNames s f r slot p confirmed →
        (recordAt s slot).presence = .offSite → (recordAt s slot).returning = true →
        ∃ (slip : Slip) (t : State),
          exec (.signIn f r) s = .next (State.replied f .signIn .ok false (.slip slip) t)
          ∧ t = { s.afterRetry f r with
                         register := { s.register with records := t.register.records }
                         wires := { s.wires with
                           toRoll := s.wires.toRoll ++ [⟨slot, .onSite⟩] } }
          ∧ recordAt t slot = { recordAt s slot with
              presence := .onSite, returning := false, signIn := some (now s),
              minutesLate := none, confirmed := confirmed }
          ∧ (∀ k, k ≠ slot → recordAt t k = recordAt s k)
          ∧ slip.arrival = .returned ∧ slip.target = none ∧ slip.outcome = none
          ∧ slip.slot = slot ∧ slip.ref = p.ref ∧ slip.stamp = now s)

/-- R81, R82, R86, R105 to R107: a SIGN-IN in OPEN of a pupil with no earlier sign-in standing, whose
class proposes a mark, is decided by the precedence table for its target session. Held, the slip is
HELD and the session stands; applied, the mark is the class's, or EXCUSED_LATE where a notice of
LATE_EXPECTED stood as NOTIFIED, expected-late is set for an EXCUSED_LATE of a notice, and an ABSENT notice
that stood as NOTIFIED is void. Where the session's mark is NONE the slip is that of NOT_SCHEDULED, no
session changes, and the adjusted flag stays as the classification set it (the model's choice, log 32).
Each time the sign-in is recorded and the pupil is on site, and a lateness accrual is asked for when the
applied mark is LATE or LATE_CLOSED, its minutes withheld when identity was not confirmed. The model's
choices: a retry report is taken before the TRAIL_OVERRUN of the mark's amendment on a full list, an order
that R93, R99 and R169 do not give (log 31), and the reply is formed after both, so the fault-valid flag of
its head shows them (log 37). -/
def Obligations.SignInsAreMarkedAndAnswered : Prop :=
  ∀ (s : State) (f : Frame) (r : SignInReq) (slot : Nat) (p : Pupil) (confirmed : Bool)
    (x : Session) (arrival : ArrivalClass) (figures : Option LateFigures)
    (excuse : Option Excuse) (clamped : Bool), Ready s f .signIn → s.canonical →
    s.day.state = .open → signInNames s f r slot p confirmed → pupilAt s slot = some p →
    ((recordAt s slot).presence = .onSite → (recordAt s slot).signIn = none) →
    ((recordAt s slot).presence = .offSite → (recordAt s slot).returning = false) →
    (classify s slot p (now s) = .present ∧ x = .am ∧ arrival = .present ∧ figures = none
        ∧ excuse = none ∧ clamped = false
      ∨ ∃ g, classify s slot p (now s) = .late x arrival g excuse clamped ∧ figures = some g) →
    (markOf s slot x = .none → ∃ t : State,
      exec (.signIn f r) s = .next (State.replied f .signIn .notScheduled clamped
        (.slip { slot := slot, ref := p.ref, cohort := p.cohort, tutor := p.tutor,
                 arrival := .notScheduled, target := none, stamp := now s,
                 confirmed := confirmed, late := none, excuse := none,
                 outcome := some .notScheduled, accrual := false, withheld := false,
                 am := markOf s slot .am, pm := markOf s slot .pm }) t)
      ∧ t = { s.afterRetry f r with
          register := { s.register with records := t.register.records }
          wires := { s.wires with
            toRoll := if (recordAt s slot).presence = .onSite then s.wires.toRoll
              else s.wires.toRoll ++ [⟨slot, .onSite⟩] } }
      ∧ recordAt t slot = { recordAt s slot with
          presence := .onSite, signIn := some (now s), minutesLate := figures.map (·.minutes),
          returning := decide ((recordAt s slot).presence = .onSite)
            && (recordAt s slot).returning
          confirmed := confirmed }
      ∧ ∀ k, k ≠ slot → recordAt t k = recordAt s k)
    ∧ (markOf s slot x ≠ .none → ∃ (slip : Slip) (t : State) (mark : Mark) (status : Status),
      exec (.signIn f r) s = .next (State.replied f .signIn status clamped (.slip slip) t)
      ∧ t = { s with register := t.register, wires := t.wires,
                     link := { s.link with fault := t.link.fault, more := t.link.more } }
      ∧ t.register.walker = s.register.walker
      ∧ slip.slot = slot ∧ slip.ref = p.ref ∧ slip.cohort = p.cohort ∧ slip.tutor = p.tutor
      ∧ slip.arrival = arrival ∧ slip.target = some x ∧ slip.stamp = now s
      ∧ slip.confirmed = confirmed ∧ slip.late = figures ∧ slip.excuse = excuse
      ∧ slip.am = markOf t slot .am ∧ slip.pm = markOf t slot .pm
      ∧ (recordAt t slot).presence = .onSite ∧ (recordAt t slot).signIn = some (now s)
      ∧ (recordAt t slot).confirmed = confirmed
      ∧ (recordAt t slot).minutesLate = figures.map (·.minutes)
      ∧ (∀ k y, k ≠ slot ∨ y ≠ x → markOf t k y = markOf s k y)
      ∧ mark = (if markOf s slot x = .notified
            ∧ ((recordAt s slot).session x).noticeIs .lateExpected = true then .excusedLate
          else arrival.mark)
      ∧ (precedence (markOf s slot x) .signin arrival.mark ≠ .apply →
          markOf t slot x = markOf s slot x ∧ slip.outcome = some .held ∧ status = .held
            ∧ t.wires.lateness = s.wires.lateness ∧ slip.accrual = false
            ∧ slip.withheld = false
            ∧ (recordAt t slot).session x = (recordAt s slot).session x)
      ∧ (precedence (markOf s slot x) .signin arrival.mark = .apply →
          mark ≠ markOf s slot x →
          markOf t slot x = mark ∧ slip.outcome = some .applied ∧ status = .ok
            ∧ ((recordAt t slot).session x).lastSource = some .signin
            ∧ ((recordAt t slot).session x).lastChange = some (now s)
            ∧ ((recordAt t slot).session x).expectedLate
              = (((recordAt s slot).session x).expectedLate
                || (mark == .excusedLate && (excuse == some .notice
                  || (markOf s slot x == .notified
                    && ((recordAt s slot).session x).noticeIs .lateExpected))))
            ∧ ((recordAt t slot).session x).notice
              = (if markOf s slot x = .notified
                    ∧ ((recordAt s slot).session x).noticeIs .absent = true then none
                else ((recordAt s slot).session x).notice)
            ∧ (slip.accrual = true ↔ mark = .late ∨ mark = .lateClosed)
            ∧ (slip.withheld = true ↔ slip.accrual = true ∧ confirmed = false)
            ∧ (mark = .late ∨ mark = .lateClosed → t.wires.lateness = s.wires.lateness
                ++ [⟨slot, p.ref, confirmed, (figures.map (·.minutes)).getD 0⟩])
            ∧ (mark ≠ .late → mark ≠ .lateClosed → t.wires.lateness = s.wires.lateness)
            ∧ (markOf s slot x ≠ .blank → t.register.amendments.getLast?
                = some ⟨slot, x, markOf s slot x, mark, .signin, now s⟩
              ∧ AmendmentAppended (s.afterRetry f r) t
                  ⟨slot, x, markOf s slot x, mark, .signin, now s⟩)))

/-- R13, R81, R87, R113, R114: a SIGN-OUT with no stated reason is BAD_FIELD; in OPEN it records the
sign-out and the returning flag, takes the pupil off site, and, for a pupil who is not returning,
authorises by precedence the sessions of the plan for today whose mark is not NONE and whose
registration entry has not begun. The reply gives the outcome and the mark then standing of each of these,
AM before PM; each applied change whose old mark is not BLANK appends its amendment (R92, R93), and a
presence that was not OFF_SITE is passed to the Site Roll (R79). That the reply is formed after a
TRAIL_OVERRUN, so that its fault-valid flag shows it, is the model's choice (log 37). -/
def Obligations.SignOutsAuthoriseWhatHasNotBegun : Prop :=
  ∀ (s : State) (f : Frame) (r : SignOutReq), Ready s f .signOut → s.canonical →
    (r.reason = none →
      exec (.signOut f r) s = .next (s.replied f .signOut .badField false .empty))
    ∧ ∀ reason, r.reason = some reason →
      (s.day.state = .closed ∨ s.day.state = .closing →
        exec (.signOut f r) s = .next (s.replied f .signOut .dayClosed false .empty))
      ∧ (s.day.state = .opening → exec (.signOut f r) s = .next (State.serving f .signOut
          { s with day := { s.day with held := s.day.held ++ [⟨f.port, .signOut r⟩] } }))
      ∧ (s.day.state = .open → lookup s r.ref = none →
        exec (.signOut f r) s = .next (s.replied f .signOut .notFound false .empty))
      ∧ ∀ slot p, s.day.state = .open → lookup s r.ref = some (slot, p) →
        pupilAt s slot = some p → ∃ (outcomes : List SessionOutcome) (t : State),
        exec (.signOut f r) s = .next (State.replied f .signOut .ok false
            (.signedOut ⟨slot, p.ref, reason, r.returning, now s, .offSite, outcomes⟩) t)
        ∧ t = { s with register := t.register, wires := t.wires,
                       link := { s.link with fault := t.link.fault, more := t.link.more } }
        ∧ t.register.walker = s.register.walker
        ∧ (recordAt t slot).signOut = some (now s)
        ∧ (recordAt t slot).returning = r.returning
        ∧ (recordAt t slot).presence = .offSite
        ∧ t.wires.toRoll = (if (recordAt s slot).presence = .offSite then s.wires.toRoll
            else s.wires.toRoll ++ [⟨slot, .offSite⟩])
        ∧ (∀ (sessions : List Session) (applies : Session → Bool),
            (∀ y, applies y = decide (precedence (markOf s slot y) .signout .authorised = .apply)) →
            ((r.returning = true ∨ planTodayOf s p.cohort = none) ∧ sessions = []
              ∨ r.returning = false ∧ ∃ today, planTodayOf s p.cohort = some today
                ∧ sessions = signOutSessions s slot today) →
            outcomes = sessions.map (fun y =>
              ⟨y, if applies y then .applied else .held, markOf t slot y⟩)
            ∧ AmendmentsAppended
              ((sessions.filter fun y => applies y && markOf s slot y != .blank).map fun y =>
                ⟨slot, y, markOf s slot y, .authorised, .signout, now s⟩) s t)
        ∧ (∀ k y, k ≠ slot → markOf t k y = markOf s k y)
        ∧ (r.returning = true → outcomes = [] ∧ ∀ y, markOf t slot y = markOf s slot y)
        ∧ (∀ today y, r.returning = false → planTodayOf s p.cohort = some today →
            markOf t slot y
              = if today.sessions.has y = true ∧ markOf s slot y ≠ .none
                  ∧ (∀ u, tableOf s today.plan = some u → u.sessionBegun y = false)
                  ∧ precedence (markOf s slot y) .signout .authorised = .apply
                then .authorised else markOf s slot y)
        ∧ (planTodayOf s p.cohort = none →
            outcomes = [] ∧ ∀ y, markOf t slot y = markOf s slot y)

/-- R13, R109 to R112, R116: a ROUTE-HOLD out of range is BAD_FIELD; in OPEN it holds its route from now
for its minutes, at most 90, and a redeclaration keeps the declaration and ends no later than two hours
after it. A hold whose expiry the last second event reached, in OPEN, ends and its route joins the
waiting route sweep item, or is swept at once by an IDLE walker with nothing waiting. -/
def Obligations.RouteHoldsAreDeclaredAndExpire : Prop :=
  (∀ (s : State) (f : Frame) (r : RouteHoldReq), Ready s f .routeHold → s.canonical →
    (r.route = 0 ∨ 31 < r.route ∨ r.minutes = 0 →
      exec (.routeHold f r) s = .next (s.replied f .routeHold .badField false .empty))
    ∧ (1 ≤ r.route → r.route ≤ 31 → r.minutes ≠ 0 →
      (s.day.state = .closed ∨ s.day.state = .closing →
        exec (.routeHold f r) s = .next (s.replied f .routeHold .dayClosed false .empty))
      ∧ (s.day.state = .opening → exec (.routeHold f r) s = .next (State.serving f .routeHold
          { s with day := { s.day with held := s.day.held ++ [⟨f.port, .routeHold r⟩] } }))
      ∧ (s.day.state = .open → ∃ (h : RouteHold) (adjusted : Bool) (t : State),
        exec (.routeHold f r) s = .next (State.replied f .routeHold .ok adjusted
            (.routeHeld ⟨r.route, h, h.totalMinutes, riders s r.route⟩) t)
        ∧ t = { s with arrivals := t.arrivals }
        ∧ holdAt t r.route = some h ∧ (∀ k, k ≠ r.route → holdAt t k = holdAt s k)
        ∧ (holdAt s r.route = none →
            h = ⟨now s, (now s).plus (min r.minutes 90 * 60)⟩
              ∧ (adjusted = true ↔ 90 < r.minutes))
        ∧ ∀ old, holdAt s r.route = some old →
            h.declared = old.declared
            ∧ (0 < stampDiff ((now s).plus (min r.minutes 90 * 60)) (old.declared.plus 7200) →
                h.expiry = old.declared.plus 7200 ∧ adjusted = true)
            ∧ (stampDiff ((now s).plus (min r.minutes 90 * 60)) (old.declared.plus 7200) ≤ 0 →
                h.expiry = (now s).plus (min r.minutes 90 * 60)
                  ∧ (adjusted = true ↔ 90 < r.minutes)))))
  ∧ ∀ (s : State) (route : Nat), s.lines.resetN = true → s.canonical →
    (holdAt s route = none → exec (.routeHoldExpiry route) s = .next s)
    ∧ ∀ h, holdAt s route = some h →
      (reached (now s) h.expiry = false → exec (.routeHoldExpiry route) s = .next s)
      ∧ (s.day.state = .open → s.arrivals.waits.getLsbD route = false →
        reached (now s) h.expiry = true → ∃ t, exec (.routeHoldExpiry route) s = .next t
        ∧ t = { s with arrivals := { s.arrivals with holds := t.arrivals.holds },
                       register := { s.register with
                         walker := t.register.walker, group := t.register.group } }
        ∧ holdAt t route = none ∧ (∀ k, k ≠ route → holdAt t k = holdAt s k)
        ∧ (s.register.walker.hand ≠ none ∨ s.register.walker.alarm = true →
            ∃ i, t.register = { s.register with
                walker := { s.register.walker with route := some i } }
              ∧ i.routes.getLsbD route = true
              ∧ (s.register.walker.route = none → i.due = now s)
              ∧ ∀ j, s.register.walker.route = some j →
                  i = ⟨j.routes ||| BitVec.twoPow 32 route, j.due⟩)
        ∧ (s.register.walker.hand = none → s.register.walker.alarm = false →
          s.register.walker.waiting = [] →
            t.register = { s.register with walker :=
              ⟨some (.item (.route ⟨BitVec.twoPow 32 route, now s⟩)), 0, false, [], none, none⟩ }))

/-! ### Parent messages -/

/-- R13, R126, R127: a NOTICE waits during OPENING; of no stated kind, with a reason over 15, a session
set that is empty or names anything else (log 22), a first day above the last or contact 0 it is BAD_FIELD,
with a last day below today BAD_FIELD with PAST, and for no pupil NOT_FOUND. One whose contact is not the
pupil's is held on the call list, or FULL where that has no room. A verified one is applied by precedence
when it is due today, and stored, replacing the slot's entry, when it needs storing; with no room to store
it, it is refused whole with a STANDING_FULL fault. That a FULL reply is formed after the CALL_LIST_FULL or
STANDING_FULL fault of its request, so that its fault-valid flag shows it, is the model's choice (log
37). -/
def Obligations.NoticesAreAppliedOrStored : Prop :=
  ∀ (s : State) (f : Frame) (r : NoticeReq), Ready s f .notice → s.canonical →
    (noticeOk r = true ↔ r.kind ≠ none ∧ r.reason ≤ 15 ∧ r.sessions ≠ ⟨false, false⟩
      ∧ r.otherSessions = false ∧ r.firstDay ≤ r.lastDay ∧ r.contact ≠ 0)
    ∧ (s.day.state = .opening → exec (.notice f r) s = .next (State.serving f .notice
      { s with day := { s.day with held := s.day.held ++ [⟨f.port, .notice r⟩] } }))
    ∧ (s.day.state ≠ .opening →
      (noticeOk r = false →
        exec (.notice f r) s = .next (s.replied f .notice .badField false .empty))
      ∧ (noticeOk r = true → r.lastDay < today s →
        exec (.notice f r) s = .next (s.replied f .notice .badField false (.check .past none)))
      ∧ (noticeOk r = true → today s ≤ r.lastDay → lookup s r.ref = none →
        exec (.notice f r) s = .next (s.replied f .notice .notFound false .empty))
      ∧ ∀ slot p kind, noticeOk r = true → r.kind = some kind → today s ≤ r.lastDay →
        lookup s r.ref = some (slot, p) → pupilAt s slot = some p →
        ((∀ c ∈ p.contacts, c.contact ≠ r.contact.toNat) →
          (callRoom s slot = false → exec (.notice f r) s
            = .next (State.replied f .notice .full false .empty
                (reportFault ⟨.callListFull, none, some (.slot slot), now s⟩ s)))
          ∧ (callRoom s slot = true → ∃ (t : State) (e : CallEntry),
            exec (.notice f r) s = .next (State.replied f .notice .ok false
                (.noticed ⟨slot, true, false, false, []⟩) t)
            ∧ t = { s with messages := { s.messages with calls := t.messages.calls } }
            ∧ callOf t slot = some e ∧ e.reasons.noticeUnverified = true
            ∧ e.notice = some ⟨kind, r.reason, r.sessions, r.firstDay, r.lastDay,
                r.contact.toNat⟩
            ∧ ∀ k, k ≠ slot → callOf t k = callOf s k))
        ∧ ((∃ c ∈ p.contacts, c.contact = r.contact.toNat) →
          (s.day.state ≠ .open ∨ today s < r.lastDay → 64 ≤ s.messages.standing.length →
            standingOf s slot = none → exec (.notice f r) s
              = .next (State.replied f .notice .full false .empty
                  (reportFault ⟨.standingFull, some f.port, some (.slot slot), now s⟩ s)))
          ∧ ((s.day.state = .open ∧ r.lastDay = today s)
                ∨ s.messages.standing.length < 64 ∨ standingOf s slot ≠ none →
            ∃ (stored replaced : Bool) (outcomes : List SessionOutcome) (t : State),
              exec (.notice f r) s = .next (State.replied f .notice .ok false
                  (.noticed ⟨slot, false, stored, replaced, outcomes⟩) t)
              ∧ t = { s with register := t.register, wires := t.wires,
                             messages := { s.messages with standing := t.messages.standing },
                             link := { s.link with
                               fault := t.link.fault, more := t.link.more } }
              ∧ (stored = true ↔ s.day.state ≠ .open ∨ today s < r.lastDay)
              ∧ (stored = true → (replaced = true ↔ standingOf s slot ≠ none)
                  ∧ ∀ e, e ∈ t.messages.standing
                    ↔ e = ⟨slot, kind, r.reason, r.sessions, r.firstDay, r.lastDay,
                          r.contact.toNat, now s⟩
                      ∨ (e ∈ s.messages.standing ∧ e.slot ≠ slot))
              ∧ (stored = false → replaced = false
                  ∧ t.messages.standing = s.messages.standing)
              ∧ (s.day.state ≠ .open ∨ today s < r.firstDay →
                  outcomes = [] ∧ t.register = s.register ∧ t.wires = s.wires)
              ∧ (s.day.state = .open → r.firstDay ≤ today s →
                  (∀ k y, k ≠ slot → markOf t k y = markOf s k y)
                  ∧ ∀ y, markOf t slot y
                      = (if r.sessions.has y = true
                            ∧ precedence (markOf s slot y) .notice .notified = .apply
                          then .notified else markOf s slot y)
                    ∧ (r.sessions.has y = true →
                        precedence (markOf s slot y) .notice .notified = .apply →
                        ((recordAt t slot).session y).notice = some ⟨kind, r.reason⟩)
                    ∧ (r.sessions.has y = true →
                        precedence (markOf s slot y) .notice .notified = .conflict →
                        .conflict slot p.ref ∈ t.wires.toMessages)))))

/-- R13, R142: a CONFIRM-NOTICE waits during OPENING; for a slot over 2047 it is BAD_FIELD, and for one
with no held notice NOT_FOUND. An expired notice is discarded, one that finds no room stays where it is
with a STANDING_FULL fault, and any other is stored or applied as a verified notice. The held notice and
NOTICE_UNVERIFIED then leave the entry, whose other reasons stay, with NOTICE_CONFLICT where a conflict
is added first, in its place and with its first time; an entry left with no reason leaves the list. Every
other slot's entry, mark and outbound entry stay, the whole queue unless leaves of sessions of the notice
are taken with that conflict, and the rest of the standing list. The model's choices: the command says
whether that conflict is added before the removal or is left in flight (log 14), and the FULL reply is
formed after its STANDING_FULL fault (log 37), and the EXPIRED reply carries the slot (log 49). A
conflict added first is stated for a part with no message to the Message Unit in flight. -/
def Obligations.ConfirmedNoticesAreTaken : Prop :=
  ∀ (s : State) (f : Frame) (slot : Nat) (conflictFirst : Bool), Ready s f .confirmNotice →
    s.canonical →
    (s.day.state = .opening →
      exec (.confirmNotice f slot conflictFirst) s = .next (State.serving f .confirmNotice
        { s with day := { s.day with
          held := s.day.held ++ [⟨f.port, .confirmNotice slot conflictFirst⟩] } }))
    ∧ (s.day.state ≠ .opening →
      (2047 < slot → exec (.confirmNotice f slot conflictFirst) s
        = .next (s.replied f .confirmNotice .badField false .empty))
      ∧ (slot ≤ 2047 → (∀ e, callOf s slot = some e → e.notice = none) →
        exec (.confirmNotice f slot conflictFirst) s
          = .next (s.replied f .confirmNotice .notFound false .empty))
      ∧ ∀ e n p, slot ≤ 2047 → callOf s slot = some e → e.notice = some n →
        pupilAt s slot = some p → (s.messages.calls.map (·.slot)).Nodup →
        (n.lastDay < today s → ∀ reasons : CallReasons,
          reasons = { e.reasons with noticeUnverified := false } →
          exec (.confirmNotice f slot conflictFirst) s
            = .next (State.replied f .confirmNotice .ok false (.noticeExpired slot)
              { s with messages := { s.messages with
                calls := if reasons = ⟨false, false, false, false, false, false⟩
                  then s.messages.calls.filter (·.slot != slot)
                  else s.messages.calls.map fun d =>
                    if d.slot = slot then { e with reasons := reasons, notice := none } else d } }))
        ∧ (today s ≤ n.lastDay → s.day.state ≠ .open ∨ today s < n.lastDay →
          64 ≤ s.messages.standing.length → standingOf s slot = none →
          exec (.confirmNotice f slot conflictFirst) s
            = .next (State.replied f .confirmNotice .full false .empty
                (reportFault ⟨.standingFull, some f.port, some (.slot slot), now s⟩ s)))
        ∧ (today s ≤ n.lastDay →
          (s.day.state = .open ∧ n.lastDay = today s)
            ∨ s.messages.standing.length < 64 ∨ standingOf s slot ≠ none →
          conflictFirst = false ∨ s.wires.toMessages = [] →
          ∃ (reply : NoticeReply) (added : Bool) (reasons : CallReasons) (t : State),
            exec (.confirmNotice f slot conflictFirst) s
              = .next (State.replied f .confirmNotice .ok false (.noticed reply) t)
            ∧ t = { s with register := t.register, wires := t.wires, messages := t.messages,
                           link := { s.link with fault := t.link.fault, more := t.link.more } }
            ∧ reply.slot = slot ∧ reply.unverified = false
            ∧ (reply.stored = true ↔ s.day.state ≠ .open ∨ today s < n.lastDay)
            ∧ (reply.stored = true → (reply.replaced = true ↔ standingOf s slot ≠ none)
                ∧ ∀ d, d ∈ t.messages.standing
                  ↔ d = ⟨slot, n.kind, n.reason, n.sessions, n.firstDay, n.lastDay, n.contact,
                      now s⟩
                    ∨ (d ∈ s.messages.standing ∧ d.slot ≠ slot))
            ∧ (reply.stored = false → reply.replaced = false
                ∧ t.messages.standing = s.messages.standing)
            ∧ (added = true ↔ conflictFirst = true ∧ s.day.state = .open ∧ n.firstDay ≤ today s
                ∧ ∃ y, n.sessions.has y = true
                  ∧ precedence (markOf s slot y) .notice .notified = .conflict)
            ∧ reasons = { e.reasons with
                noticeUnverified := false, noticeConflict := e.reasons.noticeConflict || added }
            ∧ (reasons = ⟨false, false, false, false, false, false⟩ →
                t.messages.calls = s.messages.calls.filter (·.slot != slot))
            ∧ (reasons ≠ ⟨false, false, false, false, false, false⟩ →
                t.messages.calls = s.messages.calls.map fun d =>
                  if d.slot = slot then { e with reasons := reasons, notice := none } else d)
            ∧ t.messages.tagCounter = s.messages.tagCounter
            ∧ (∀ k, k ≠ slot → outboundOf t k = outboundOf s k)
            ∧ (conflictFirst = false
                ∨ (∀ y, n.sessions.has y = true → markOf s slot y ≠ .unexplained) →
              t.messages.outbound = s.messages.outbound)
            ∧ (∀ k y, k ≠ slot → markOf t k y = markOf s k y)
            ∧ (s.day.state ≠ .open ∨ today s < n.firstDay →
                reply.outcomes = [] ∧ t.register = s.register ∧ t.wires = s.wires
                  ∧ t.messages.outbound = s.messages.outbound)
            ∧ (s.day.state = .open → n.firstDay ≤ today s → ∀ y,
                markOf t slot y
                  = (if n.sessions.has y = true
                        ∧ precedence (markOf s slot y) .notice .notified = .apply
                      then .notified else markOf s slot y)
                ∧ (n.sessions.has y = true →
                    precedence (markOf s slot y) .notice .notified = .apply →
                    ((recordAt t slot).session y).notice = some ⟨n.kind, n.reason⟩)
                ∧ (n.sessions.has y = true → conflictFirst = false →
                    precedence (markOf s slot y) .notice .notified = .conflict →
                    .conflict slot p.ref ∈ t.wires.toMessages))))

/-- R130, R140, R141: READ-STANDING and READ-CALLS give the entries from the start index on, as many as
fit (R165), with the index of the first one not returned, and change nothing but their port,
CANCEL-STANDING and CLEAR-CALL remove the slot's entry and answer with it, and an addition to the call
list adds its reason to the slot's entry, whose other reasons, place, first time and held notice stay, or
places a new entry with that reason alone at the back; with no room it is refused with a CALL_LIST_FULL
fault, and for a pupil the slot no longer holds it is discarded. -/
def Obligations.ListsAreReadAndKept : Prop :=
  (∀ (s : State) (f : Frame) (start : Nat), Ready s f .readStanding →
    (63 < start → exec (.readStanding f start) s
      = .next (s.replied f .readStanding .badField false .empty))
    ∧ (start ≤ 63 → ∃ part : ListPart StandingItem, exec (.readStanding f start) s
        = .next (s.replied f .readStanding .ok false
            (.standing s.messages.standing.length part))
      ∧ (∀ i : Nat, i < part.items.length → part.items[i]?
          = (s.messages.standing[start + i]?).map fun e => ⟨start + i, e, refAt s e.slot⟩)
      ∧ (start < s.messages.standing.length → part.items ≠ [])
      ∧ ReadFrom (s.port f.port).limit
          (Config.fixedOctets (Kind.readStanding, s.messages.standing.length)) start
          (s.messages.standing.mapIdx fun i e => ⟨i, e, refAt s e.slot⟩) part))
  ∧ (∀ (s : State) (f : Frame) (start : Nat), Ready s f .readCalls →
    (95 < start → exec (.readCalls f start) s
      = .next (s.replied f .readCalls .badField false .empty))
    ∧ (start ≤ 95 → ∃ part : ListPart CallItem, exec (.readCalls f start) s
        = .next (s.replied f .readCalls .ok false (.calls s.messages.calls.length part))
      ∧ (∀ i : Nat, i < part.items.length → part.items[i]?
          = (s.messages.calls[start + i]?).map fun e => ⟨start + i, e, refAt s e.slot⟩)
      ∧ (start < s.messages.calls.length → part.items ≠ [])
      ∧ ReadFrom (s.port f.port).limit
          (Config.fixedOctets (Kind.readCalls, s.messages.calls.length)) start
          (s.messages.calls.mapIdx fun i e => ⟨i, e, refAt s e.slot⟩) part))
  ∧ (∀ (s : State) (f : Frame) (ref : PupilRef), Ready s f .cancelStanding →
    ((lookup s ref = none ∨ ∃ k p, lookup s ref = some (k, p) ∧ standingOf s k = none) →
      exec (.cancelStanding f ref) s
        = .next (s.replied f .cancelStanding .notFound false .empty))
    ∧ ∀ k p e, lookup s ref = some (k, p) → standingOf s k = some e →
      exec (.cancelStanding f ref) s
        = .next (State.replied f .cancelStanding .ok false (.standingCancelled e)
            { s with messages := { s.messages with
              standing := s.messages.standing.filter (·.slot != k) } }))
  ∧ (∀ (s : State) (f : Frame) (slot : Nat), Ready s f .clearCall →
    (2047 < slot → exec (.clearCall f slot) s
      = .next (s.replied f .clearCall .badField false .empty))
    ∧ (slot ≤ 2047 → callOf s slot = none → exec (.clearCall f slot) s
      = .next (s.replied f .clearCall .notFound false .empty))
    ∧ ∀ e, slot ≤ 2047 → callOf s slot = some e → exec (.clearCall f slot) s
      = .next (State.replied f .clearCall .ok false (.callCleared e)
          { s with messages := { s.messages with
            calls := s.messages.calls.filter (·.slot != slot) } }))
  ∧ ∀ (s u : State) (caller : Caller) (slot : Nat) (ref : PupilRef), s.lines.resetN = true →
    ((caller = .dayRegister ∧ ∃ rest, s.wires.toMessages = .conflict slot ref :: rest
        ∧ u = { s with wires := { s.wires with toMessages := rest } })
      ∨ (caller = .termAccumulators ∧ ∃ rest, s.wires.concern = ⟨slot, ref⟩ :: rest
        ∧ u = { s with wires := { s.wires with concern := rest } })) →
    (refAt s slot ≠ some ref → exec (.callListAdd caller) s = .next u)
    ∧ (refAt s slot = some ref → callOf s slot = none → 96 ≤ s.messages.calls.length →
      exec (.callListAdd caller) s
        = .next (reportFault ⟨.callListFull, none, some (.slot slot), now s⟩ u))
    ∧ (refAt s slot = some ref →
      callOf s slot ≠ none ∨ s.messages.calls.length < 96 → ∃ (t : State) (e : CallEntry),
      exec (.callListAdd caller) s = .next t
      ∧ t = { u with messages := { u.messages with calls := t.messages.calls } }
      ∧ callOf t slot = some e
      ∧ (∀ d, callOf s slot = some d →
          (caller = .dayRegister →
            e = { d with reasons := { d.reasons with noticeConflict := true } })
          ∧ (caller = .termAccumulators →
            e = { d with reasons := { d.reasons with concern := true } })
          ∧ t.messages.calls.map (·.slot) = s.messages.calls.map (·.slot))
      ∧ (callOf s slot = none → t.messages.calls = s.messages.calls ++ [e]
          ∧ (caller = .dayRegister →
            e = ⟨slot, ⟨false, false, false, false, true, false⟩, now s, none⟩)
          ∧ (caller = .termAccumulators →
            e = ⟨slot, ⟨false, false, false, false, false, true⟩, now s, none⟩))
      ∧ ∀ k, k ≠ slot → callOf t k = callOf s k)

/-- R131 to R134: a raise makes a QUEUED alert at the back of its class, or joins the slot's entry as the
table gives; with the queue full the pupil joins the call list with QUEUE_FULL, the fault is reported and
the alert is UNSENT. A leave takes its session out of a QUEUED alert, which is withdrawn when none is
left, or out of the follow-on set; it recalls a HANDED alert with no session still UNEXPLAINED, and makes
a CORRECTION of a delivered one, or with the queue full adds the pupil to the call list. Either is
discarded when the slot no longer holds the pupil. A report sets the register's alert state. The model's
choices: a correction is owed by the alert state the register holds (log 8), a leave to which two rows of
R134 apply does what both say, one whose session is UNEXPLAINED again leaves recall and one whose session
the entry holds in neither set leaves the entry (log 23), and CALL_LIST_FULL goes before QUEUE_FULL (log
37). -/
def Obligations.RaisesLeavesAndReports : Prop :=
  (∀ (s u : State) (slot : Nat) (ref : PupilRef) (x : Session) (rest : List ToMessages),
    s.lines.resetN = true → s.wires.toMessages = .raise slot ref x :: rest →
    u = { s with wires := { s.wires with toMessages := rest } } →
    (refAt s slot ≠ some ref → exec .raiseAlert s = .next u)
    ∧ (refAt s slot = some ref → outboundOf s slot = none →
      (s.messages.outbound.length < 192 → ∃ (t : State) (e : Outbound),
        exec .raiseAlert s = .next t
        ∧ t = { u with messages := { u.messages with outbound := s.messages.outbound ++ [e] },
                       wires := { u.wires with reports := t.wires.reports } }
        ∧ e.kind = .alert ∧ e.slot = slot ∧ e.sessions = .of x
        ∧ e.followOn = ⟨false, false⟩ ∧ e.recalled = false ∧ e.contactIndex = 0
        ∧ e.attempts = 0 ∧ e.handed = none ∧ e.queuedTime = now s
        ∧ (∀ d ∈ s.messages.outbound, d.queuedTime = now s → d.place < e.place)
        ∧ AlertReported u t slot .queued)
      ∧ (192 ≤ s.messages.outbound.length → ∃ v t : State, exec .raiseAlert s = .next t
        ∧ v = { u with messages := { u.messages with calls := v.messages.calls }, link := v.link }
        ∧ CallJoined u v slot .queueFull
        ∧ t = { reportFault ⟨.queueFull, none, some (.slot slot), now s⟩ v with
            wires := { u.wires with reports := t.wires.reports } }
        ∧ AlertReported u t slot .unsent))
    ∧ ∀ e, refAt s slot = some ref → outboundOf s slot = some e → ∃ d : Outbound,
      exec .raiseAlert s = .next { u with
        messages := { u.messages with
          outbound := s.messages.outbound.map fun o => if o.slot = slot then d else o } }
      ∧ (e.kind = .alert → e.handed = none →
          d = { e with sessions := e.sessions.put x true })
      ∧ (e.kind = .alert → e.handed ≠ none → e.recalled = true → e.sessions.has x = true →
          d = { e with recalled := false })
      ∧ (e.kind = .correction
            ∨ (e.handed ≠ none ∧ (e.recalled = false ∨ e.sessions.has x = false)) →
          d = { e with followOn := e.followOn.put x true }))
  ∧ (∀ (s u : State) (slot : Nat) (ref : PupilRef) (x : Session) (mark : Mark)
      (rest : List ToMessages),
    s.lines.resetN = true → s.wires.toMessages = .leave slot ref x mark :: rest →
    u = { s with wires := { s.wires with toMessages := rest } } →
    (refAt s slot ≠ some ref → exec .leaveUnexplained s = .next u)
    ∧ (refAt s slot = some ref → outboundOf s slot = none →
      ((recordAt s slot).alert ≠ .delivered
          ∨ (mark ≠ .late ∧ mark ≠ .lateClosed ∧ mark ≠ .excusedLate ∧ mark ≠ .present) →
        exec .leaveUnexplained s = .next u)
      ∧ ((recordAt s slot).alert = .delivered →
        mark = .late ∨ mark = .lateClosed ∨ mark = .excusedLate ∨ mark = .present →
        (s.messages.outbound.length < 192 → ∃ (t : State) (e : Outbound),
          exec .leaveUnexplained s = .next t
          ∧ t = { u with messages := { u.messages with outbound := s.messages.outbound ++ [e] },
                         wires := { u.wires with reports := t.wires.reports } }
          ∧ e.kind = .correction ∧ e.slot = slot ∧ e.sessions = .of x
          ∧ e.followOn = ⟨false, false⟩ ∧ e.recalled = false ∧ e.handed = none
          ∧ e.contactIndex = 0 ∧ e.attempts = 0 ∧ e.queuedTime = now s
          ∧ (∀ d ∈ s.messages.outbound, d.queuedTime = now s → d.place < e.place)
          ∧ e.arrival = (recordAt s slot).signIn ∧ AlertReported u t slot .queued)
        ∧ (192 ≤ s.messages.outbound.length → ∃ v : State,
          exec .leaveUnexplained s
            = .next (reportFault ⟨.queueFull, none, some (.slot slot), now s⟩ v)
          ∧ v = { u with messages := { u.messages with calls := v.messages.calls },
                         link := v.link }
          ∧ CallJoined u v slot .queueFull)))
    ∧ ∀ e, refAt s slot = some ref → outboundOf s slot = some e →
      (e.kind = .alert → e.handed = none → e.sessions = .of x → ∃ t,
        exec .leaveUnexplained s = .next t
        ∧ t = { u with
            messages := { u.messages with
              outbound := s.messages.outbound.filter (·.slot != slot) }
            wires := { u.wires with reports := t.wires.reports } }
        ∧ AlertReported u t slot .withdrawn)
      ∧ (e.kind = .alert → e.handed = none → e.sessions = ⟨true, true⟩ →
        exec .leaveUnexplained s = .next { u with
          messages := { u.messages with
            outbound := s.messages.outbound.map fun o => if o.slot = slot then
              { e with sessions := e.sessions.put x false } else o } })
      ∧ (e.kind = .alert → e.handed ≠ none → e.sessions.has x = true →
        (∀ y, e.sessions.has y = true → markOf s slot y ≠ .unexplained) →
        exec .leaveUnexplained s = .next { u with
          messages := { u.messages with
            outbound := s.messages.outbound.map fun o => if o.slot = slot then
              { e with recalled := true, followOn := e.followOn.put x false } else o } })
      ∧ (e.kind = .correction ∨ e.sessions.has x = false
          ∨ (e.handed ≠ none
            ∧ ∃ y, e.sessions.has y = true ∧ markOf s slot y = .unexplained) →
        exec .leaveUnexplained s = .next { u with
          messages := { u.messages with
            outbound := s.messages.outbound.map fun o => if o.slot = slot then
              { e with followOn := e.followOn.put x false } else o } }))
  ∧ ∀ (s u : State) (r : AlertReport) (rest : List AlertReport), s.lines.resetN = true →
    s.canonical → s.wires.reports = r :: rest →
    u = { s with wires := { s.wires with reports := rest } } →
    (refAt s r.slot ≠ some r.ref → exec .alertStateReport s = .next u)
    ∧ (refAt s r.slot = some r.ref → ∃ t, exec .alertStateReport s = .next t
      ∧ t = { u with register := { u.register with records := t.register.records } }
      ∧ recordAt t r.slot = { recordAt s r.slot with alert := r.alert }
      ∧ ∀ k, k ≠ r.slot → recordAt t k = recordAt s k)

/-- R131, R135, R136: with eight entries HANDED, or none QUEUED, TAKE-MESSAGE answers that there is
nothing to send. Otherwise the entry at the head of service, a CORRECTION before an alert, then the
earlier queued time, then the lower place, where its pupil has a contact at its contact index, is handed
over: HANDED with the first value from the tag counter on that no HANDED entry holds, an advance from
65535 going to 1, its attempts one up, and the reply carries the hand-over record. A head with no contact
to try leaves the queue EXHAUSTED and joins the call list, and the request then goes on with the rest of
the queue, which answers nothing to send when nothing else is QUEUED. That the reply is formed after the
CALL_LIST_FULL of such a head, so that its fault-valid flag shows it, is the model's choice (log 37). -/
def Obligations.TakeMessageHandsOverTheHead : Prop :=
  (∀ (s : State) (e : Outbound), e ∈ s.messages.outbound → e.handed = none →
    (∀ d ∈ s.messages.outbound, d.handed = none →
      d = e ∨ (ServiceOrder e d ∧ ¬ ServiceOrder d e)) →
    headOfService s = some e)
  ∧ (∀ s : State, (headOfService s = none ↔ ∀ e ∈ s.messages.outbound, e.handed ≠ none)
    ∧ ∀ e, headOfService s = some e → e ∈ s.messages.outbound ∧ e.handed = none)
  ∧ ∀ (s : State) (f : Frame), Ready s f .takeMessage →
    ((8 ≤ handedCount s ∨ ∀ e ∈ s.messages.outbound, e.handed ≠ none) →
      exec (.takeMessage f) s = .next (s.replied f .takeMessage .ok false .nothingToSend))
    ∧ (∀ e p c (tags : Nat → Nat), handedCount s < 8 → headOfService s = some e →
      pupilAt s e.slot = some p → p.contacts[e.contactIndex]? = some c →
      tags 0 = s.messages.tagCounter →
      (∀ j, tags (j + 1) = if tags j < 65535 then tags j + 1 else 1) →
      ∃ (k attempts : Nat) (t : State),
      exec (.takeMessage f) s = .next (State.replied f .takeMessage .ok false
          (.handOver ⟨tags k, e.kind, p.ref, c.contact, c.channel, e.sessions, attempts,
            if e.kind = .correction then e.arrival else none⟩) t)
      ∧ attempts = min 255 (e.attempts + 1)
      ∧ t = { s with
          messages := { s.messages with
            tagCounter := tags (k + 1)
            outbound := s.messages.outbound.map fun o => if o.slot = e.slot then
              { e with handed := some ⟨tags k, now s, false⟩, attempts := attempts } else o }
          wires := { s.wires with reports := t.wires.reports } }
      ∧ AlertReported s t e.slot .handed
      ∧ k < 8 ∧ handedWith s (tags k) = none ∧ ∀ j, j < k → handedWith s (tags j) ≠ none)
    ∧ ∀ e p, handedCount s < 8 → headOfService s = some e → pupilAt s e.slot = some p →
      p.contacts.length ≤ e.contactIndex → (s.messages.outbound.map (·.slot)).Nodup → ∃ t,
      t = { s with
          messages := { s.messages with
            outbound := s.messages.outbound.filter (·.slot != e.slot), calls := t.messages.calls }
          wires := { s.wires with reports := t.wires.reports }
          link := t.link }
      ∧ AlertReported s t e.slot .exhausted
      ∧ CallJoined s t e.slot (if p.contacts = [] then .noContact else .exhausted)
      ∧ exec (.takeMessage f) s = exec (.takeMessage f) t
      ∧ ((∀ d ∈ s.messages.outbound, d.slot ≠ e.slot → d.handed ≠ none) →
        exec (.takeMessage f) s
          = .next (State.replied f .takeMessage .ok false .nothingToSend t))

/-- R137 to R139, R143: a MESSAGE-RESULT of no stated outcome is BAD_FIELD and one whose tag no HANDED
entry holds STALE. Delivered, a recalled alert becomes a CORRECTION at the back of its class, and any
other entry leaves, a standing alert DELIVERED and a CORRECTION CORRECTED; a failure moves on to the next
contact, and after the last leaves EXHAUSTED for the call list, but a recalled alert leaves WITHDRAWN. An
entry that would leave, delivered or recalled, with follow-on sessions still UNEXPLAINED returns as an
alert for those. A hand-over whose 900 seconds the last second event reached times out with a fault and
returns QUEUED with its contact and place, a recalled alert as a CORRECTION. After the close every
outcome ends the entry. Nothing else changes. That an alert with no session still UNEXPLAINED leaves
WITHDRAWN where it would return QUEUED with none is the model's reading of R131 (log 36), that a result
for a tag given again after a RESTART is answered OK and settles the new entry its choice (R144, log 46),
and that the reply of a last failure is formed after the CALL_LIST_FULL of its entry its choice (log 37).
-/
def Obligations.ResultsAndTimeoutsSettleHandOvers : Prop :=
  (∀ (s : State) (f : Frame) (tag : Nat), Ready s f .messageResult →
    exec (.messageResult f tag none) s
        = .next (s.replied f .messageResult .badField false .empty)
    ∧ (∀ o, handedWith s tag = none → exec (.messageResult f tag (some o)) s
        = .next (s.replied f .messageResult .stale false .empty))
    ∧ ∀ e h o p (recallSet : Bool), handedWith s tag = some e → e.handed = some h →
      pupilAt s e.slot = some p → (recallSet = true ↔ e.kind = .alert ∧ e.recalled = true) →
      ∃ t, exec (.messageResult f tag (some o)) s
          = .next (State.replied f .messageResult .ok false .empty t)
        ∧ t = { s with
            messages := { s.messages with
              outbound := t.messages.outbound, calls := t.messages.calls }
            wires := { s.wires with reports := t.wires.reports }
            link := t.link }
        ∧ (h.afterClose = true ∨ o = .delivered ∨ recallSet = true
              ∨ e.contactIndex + 1 < p.contacts.length →
          t.messages.calls = s.messages.calls ∧ t.link = s.link)
        ∧ (h.afterClose = true →
          t.messages.outbound = s.messages.outbound.filter (·.slot != e.slot)
          ∧ AlertReported s t e.slot
              (if o = .delivered then (if e.kind = .alert then .delivered else .corrected)
               else if e.kind = .correction then .delivered
               else if recallSet = true then .withdrawn else .unsent))
        ∧ (h.afterClose = false → o = .delivered → recallSet = true →
          ∃ place, t.messages.outbound = s.messages.outbound.map (fun d =>
              if d.slot = e.slot then
                { e with kind := .correction, recalled := false, attempts := 0,
                         arrival := (recordAt s e.slot).signIn, handed := none,
                         queuedTime := now s, place := place } else d)
          ∧ (∀ d ∈ s.messages.outbound, d.queuedTime = now s → d.place < place)
          ∧ AlertReported s t e.slot .queued)
        ∧ (h.afterClose = false → (o = .delivered ↔ recallSet = false) →
          ((∀ x, e.followOn.has x = true → markOf s e.slot x ≠ .unexplained) →
            t.messages.outbound = s.messages.outbound.filter (·.slot != e.slot)
            ∧ AlertReported s t e.slot
                (if recallSet = true then .withdrawn
                 else if e.kind = .alert then .delivered else .corrected))
          ∧ ((∃ x, e.followOn.has x = true ∧ markOf s e.slot x = .unexplained) →
            ∃ sessions place, t.messages.outbound = s.messages.outbound.map (fun d =>
                if d.slot = e.slot then
                  { e with kind := .alert, sessions := sessions, followOn := ⟨false, false⟩,
                           recalled := false, contactIndex := 0, attempts := 0,
                           arrival := none, handed := none,
                           queuedTime := now s, place := place } else d)
            ∧ (∀ x, sessions.has x = true ↔
                e.followOn.has x = true ∧ markOf s e.slot x = .unexplained)
            ∧ (∀ d ∈ s.messages.outbound, d.queuedTime = now s → d.place < place)
            ∧ AlertReported s t e.slot .queued))
        ∧ (h.afterClose = false → o ≠ .delivered → recallSet = false →
          e.contactIndex + 1 < p.contacts.length → StillOwed s e →
          ∃ sessions followOn, t.messages.outbound = s.messages.outbound.map (fun d =>
              if d.slot = e.slot then
                { e with handed := none, contactIndex := e.contactIndex + 1,
                         sessions := sessions, followOn := followOn } else d)
          ∧ (e.kind = .correction → sessions = e.sessions ∧ followOn = e.followOn)
          ∧ (e.kind = .alert → followOn = ⟨false, false⟩ ∧ ∀ x, sessions.has x = true ↔
              (e.sessions.has x = true ∨ e.followOn.has x = true)
                ∧ markOf s e.slot x = .unexplained)
          ∧ AlertReported s t e.slot .queued)
        ∧ (h.afterClose = false → o ≠ .delivered → recallSet = false →
          e.contactIndex + 1 < p.contacts.length → ¬ StillOwed s e →
          t.messages.outbound = s.messages.outbound.filter (·.slot != e.slot)
          ∧ AlertReported s t e.slot .withdrawn)
        ∧ (h.afterClose = false → o ≠ .delivered → recallSet = false →
          p.contacts.length ≤ e.contactIndex + 1 →
          t.messages.outbound = s.messages.outbound.filter (·.slot != e.slot)
          ∧ AlertReported s t e.slot .exhausted
          ∧ CallJoined s t e.slot .exhausted))
  ∧ ∀ (s : State) (tag : Nat), s.lines.resetN = true →
    (handedWith s tag = none → exec (.handoverTimeout tag) s = .next s)
    ∧ ∀ e h p (recallSet : Bool), handedWith s tag = some e → e.handed = some h →
      pupilAt s e.slot = some p → (recallSet = true ↔ e.kind = .alert ∧ e.recalled = true) →
      (reached (now s) (h.time.plus 900) = false →
        exec (.handoverTimeout tag) s = .next s)
      ∧ (reached (now s) (h.time.plus 900) = true → ∃ t,
        exec (.handoverTimeout tag) s = .next t
        ∧ t = { s with
            messages := { s.messages with outbound := t.messages.outbound }
            wires := { s.wires with reports := t.wires.reports }
            link := (reportFault ⟨.gatewayTimeout, none, some (.slot e.slot), now s⟩ s).link }
        ∧ (h.afterClose = true →
          t.messages.outbound = s.messages.outbound.filter (·.slot != e.slot)
          ∧ AlertReported s t e.slot (if e.kind = .alert then .unsent else .delivered))
        ∧ (h.afterClose = false → recallSet = true →
          ∃ place, t.messages.outbound = s.messages.outbound.map (fun d =>
              if d.slot = e.slot then
                { e with kind := .correction, recalled := false, attempts := 0,
                         arrival := (recordAt s e.slot).signIn, handed := none,
                         queuedTime := now s, place := place } else d)
          ∧ (∀ d ∈ s.messages.outbound, d.queuedTime = now s → d.place < place)
          ∧ AlertReported s t e.slot .queued)
        ∧ (h.afterClose = false → recallSet = false → StillOwed s e → ∃ sessions followOn,
          t.messages.outbound = s.messages.outbound.map (fun d =>
              if d.slot = e.slot then
                { e with handed := none, sessions := sessions, followOn := followOn } else d)
          ∧ (e.kind = .correction → sessions = e.sessions ∧ followOn = e.followOn)
          ∧ (e.kind = .alert → followOn = ⟨false, false⟩ ∧ ∀ x, sessions.has x = true ↔
              (e.sessions.has x = true ∨ e.followOn.has x = true)
                ∧ markOf s e.slot x = .unexplained)
          ∧ AlertReported s t e.slot .queued)
        ∧ (h.afterClose = false → recallSet = false → ¬ StillOwed s e →
          t.messages.outbound = s.messages.outbound.filter (·.slot != e.slot)
          ∧ AlertReported s t e.slot .withdrawn))

/-! ### Term totals -/

/-- R145 to R150, R152, R153: an accrual or a fold for a pupil the slot no longer holds is discarded. A
lateness accrual adds one late arrival and, for a confirmed identity, one timed arrival and its minutes;
an open-minutes accrual adds its minutes; a fold, made once for a register day, adds for each final mark
what the table of R149 gives, and asks for CONCERN when it carries the unexplained sessions to the
threshold. Counts wrap at 65536, minutes stay at 65535 and unexplained sessions at 255, and a field so
limited joins the limit set. READ-TOTALS changes nothing but its port, its list gives the ENROLLED slots
from the start slot on at or above the least count, in slot order, as many as fit (R165), with the slot
after the last one, absent when no slot of the list remains (log 21), and every reply of it, a refusal too,
carries the term days, the threshold and the fold flag; TERM-RESET zeroes everything in CLOSED and
is BUSY otherwise. -/
def Obligations.TotalsGrowByAccrualsAndFolds : Prop :=
  (∀ (s u : State) (a : LatenessAsk) (rest : List LatenessAsk) (old : Accumulator)
      (timed minutes : Nat), s.lines.resetN = true → s.canonical →
    s.wires.lateness = a :: rest → u = { s with wires := { s.wires with lateness := rest } } →
    old = totalsAt s a.slot → timed = (if a.confirmed = true then 1 else 0) →
    minutes = (if a.confirmed = true then a.minutes else 0) →
    (refAt s a.slot ≠ some a.ref → exec .latenessAccrual s = .next u)
    ∧ (refAt s a.slot = some a.ref → ∃ t, exec .latenessAccrual s = .next t
      ∧ t = { u with totals := { u.totals with records := t.totals.records } }
      ∧ (∀ k, k ≠ a.slot → totalsAt t k = totalsAt s k)
      ∧ totalsAt t a.slot = { old with
          late := (old.late + 1) % 65536
          timedLate := (old.timedLate + timed) % 65536
          lateMinutes := min 65535 (old.lateMinutes + minutes)
          limits := { old.limits with
            late := old.limits.late || decide (65535 < old.late + 1)
            timedLate := old.limits.timedLate || decide (65535 < old.timedLate + timed)
            lateMinutes :=
              old.limits.lateMinutes || decide (65535 < old.lateMinutes + minutes) } }))
  ∧ (∀ (s u : State) (slot minutes : Nat) (ref : PupilRef) (rest : List ToAccumulators)
      (old : Accumulator), s.lines.resetN = true → s.canonical →
    s.wires.toAccumulators = .openMinutes slot ref minutes :: rest →
    u = { s with wires := { s.wires with toAccumulators := rest } } → old = totalsAt s slot →
    (refAt s slot ≠ some ref → exec .openMinutesAccrual s = .next u)
    ∧ (refAt s slot = some ref → ∃ t, exec .openMinutesAccrual s = .next t
      ∧ t = { u with totals := { u.totals with records := t.totals.records } }
      ∧ (∀ k, k ≠ slot → totalsAt t k = totalsAt s k)
      ∧ totalsAt t slot = { old with
          openMinutes := min 65535 (old.openMinutes + minutes)
          limits := { old.limits with openMinutes :=
            old.limits.openMinutes || decide (65535 < old.openMinutes + minutes) } }))
  ∧ (∀ (s u : State) (slot : Nat) (ref : PupilRef) (day : DayNumber) (am pm : Mark)
      (rest : List ToAccumulators) (old : Accumulator), s.lines.resetN = true → s.canonical →
    s.wires.toAccumulators = .fold slot ref day am pm :: rest →
    u = { s with wires := { s.wires with toAccumulators := rest } } → old = totalsAt s slot →
    (refAt s slot ≠ some ref ∨ old.lastFold = some day → exec .fold s = .next u)
    ∧ (refAt s slot = some ref → old.lastFold ≠ some day →
      ∃ (t : State) (possible attended unexplained : Nat), exec .fold s = .next t
      ∧ t = { u with totals := { u.totals with records := t.totals.records },
                     wires := { u.wires with concern := t.wires.concern } }
      ∧ (∀ k, k ≠ slot → totalsAt t k = totalsAt s k)
      ∧ totalsAt t slot = { old with
          possible := (old.possible + possible) % 65536
          attended := (old.attended + attended) % 65536
          unexplained := min 255 (old.unexplained + unexplained)
          limits := { old.limits with
            possible := old.limits.possible || decide (65535 < old.possible + possible)
            attended := old.limits.attended || decide (65535 < old.attended + attended)
            unexplained :=
              old.limits.unexplained || decide (255 < old.unexplained + unexplained) }
          lastFold := some day }
      ∧ (∀ counts : Mark → Nat × Nat × Nat,
          (∀ m ∈ [Mark.present, .late, .excusedLate, .offsite], counts m = (1, 1, 0)) →
          counts .lateClosed = (1, 0, 1) → counts .unexplained = (1, 0, 1) →
          counts .notified = (1, 0, 0) → counts .authorised = (1, 0, 0) →
          counts .none = (0, 0, 0) →
          am ≠ .blank → am ≠ .notSeen → pm ≠ .blank → pm ≠ .notSeen →
          possible = (counts am).1 + (counts pm).1
            ∧ attended = (counts am).2.1 + (counts pm).2.1
            ∧ unexplained = (counts am).2.2 + (counts pm).2.2)
      ∧ t.wires.concern
        = (if 0 < s.store.settings.concern ∧ old.unexplained < s.store.settings.concern
              ∧ s.store.settings.concern ≤ (totalsAt t slot).unexplained
            then s.wires.concern ++ [⟨slot, ref⟩] else s.wires.concern)))
  ∧ (∀ (s : State) (f : Frame) (head : TotalsHead), Ready s f .readTotals →
    head = ⟨s.totals.termDays, s.store.settings.concern, decide (s.day.state = .closing)⟩ →
    (∀ k, k < 2048 → ∃ adjusted, exec (.readTotals f (.slot k)) s
        = .next (s.replied f .readTotals .ok adjusted (.totals head
            ⟨k, (refAt s k).map fun ref => (ref, totalsAt s k)⟩))
      ∧ (adjusted = true ↔ (refAt s k).isSome = true ∧ (totalsAt s k).limits.any = true))
    ∧ (∀ ref k p, lookup s ref = some (k, p) → ∃ adjusted,
        exec (.readTotals f (.reference ref)) s
          = .next (s.replied f .readTotals .ok adjusted (.totals head
              ⟨k, (refAt s k).map fun r => (r, totalsAt s k)⟩))
        ∧ (adjusted = true ↔ (refAt s k).isSome = true ∧ (totalsAt s k).limits.any = true))
    ∧ (∀ ref, lookup s ref = none → exec (.readTotals f (.reference ref)) s
        = .next (s.replied f .readTotals .notFound false (.totalsRefused head)))
    ∧ (∀ start least, start < 2048 → (∀ n, least = some n → n ≤ 255) → s.pupils.sound →
      ∃ (adjusted : Bool) (part : ListPart TotalsView),
        exec (.readTotals f (.list start least)) s
            = .next (s.replied f .readTotals .ok adjusted (.totalsList head part))
          ∧ (adjusted = true ↔ ∃ v ∈ part.items, (totalsAt s v.slot).limits.any = true)
          ∧ (∀ v ∈ part.items, start ≤ v.slot ∧ (refAt s v.slot).isSome = true
              ∧ v.enrolled = (refAt s v.slot).map (fun ref => (ref, totalsAt s v.slot))
              ∧ ∀ n, least = some n → n ≤ (totalsAt s v.slot).unexplained)
          ∧ ∀ all : List TotalsView,
            all = ((enrolled s).filter fun e => decide (start ≤ e.1)
                && least.all fun n => decide (n ≤ (totalsAt s e.1).unexplained)).map
              (fun e => ⟨e.1, (refAt s e.1).map fun ref => (ref, totalsAt s e.1)⟩) →
            ReadBySlot (s.port f.port).limit (Config.fixedOctets head) (·.slot) all part)
    ∧ ∀ selector, selector = .unknown ∨ (∃ k, selector = .slot k ∧ 2047 < k)
        ∨ (∃ k least, selector = .list k least ∧ 2047 < k)
        ∨ (∃ k n, selector = .list k (some n) ∧ 255 < n) →
      exec (.readTotals f selector) s
        = .next (s.replied f .readTotals .badField false (.totalsRefused head)))
  ∧ ∀ (s : State) (f : Frame), Ready s f .termReset →
    (s.day.state ≠ .closed →
      exec (.termReset f) s = .next (s.replied f .termReset .busy false .empty))
    ∧ (s.day.state = .closed → ∃ t, exec (.termReset f) s
        = .next (State.replied f .termReset .ok false (.termDays s.totals.termDays) t)
      ∧ t = { s with totals := t.totals }
      ∧ t.totals.termDays = 0 ∧ ∀ k, totalsAt t k = zeroAccumulator)

/-! ### The Site Roll -/

/-- R156 to R159: a build visit gives an entry to a pupil on site with none, among the built entries by
cohort, tutor group and slot and ahead of every joiner, and moves the cursor; past slot 2047 the roll is
ACTIVE under the alarm and STANDING otherwise. A presence change marks or unmarks its entry departed, or
adds a joiner at the back, and changes nothing in IDLE; one to OFF_SITE marks its entry whatever the
presence was before (the model's choice where it was UNKNOWN, log 47). ACCOUNT sets the flags of the
entries it names (out of range it is BAD_FIELD in IDLE too, the model's choice, log 44), READ-ROLL
changes nothing but its port and gives the entries from the start index on, as many as fit (R165), with
the index of the first one not returned, and ROLL-CLOSE empties a STANDING roll. That a build which has
visited slot 2047 is BUILDING at cursor 2048, as READ-ROLL then shows, until its completion is taken is
the model's choice (log 26). -/
def Obligations.TheRollIsBuiltAndAccounted : Prop :=
  (∀ a b : RollEntry, a.before b = true ↔ a.cohort < b.cohort
    ∨ (a.cohort = b.cohort ∧ (a.tutor < b.tutor ∨ (a.tutor = b.tutor ∧ a.slot < b.slot))))
  ∧ (∀ (s : State) (c : Nat), s.lines.resetN = true → s.roll.state = .building c →
    (c < 2048 → ∃ t, exec .rollBuildVisit s = .next t
      ∧ t = { s with roll := ⟨s.roll.alarm, .building (c + 1), t.roll.entries⟩ }
      ∧ (∀ p, pupilAt s c = some p → (recordAt s c).presence = .onSite →
          (∀ e ∈ s.roll.entries, e.slot ≠ c) → ∃ (l r : List RollEntry) (e : RollEntry),
          e = ⟨c, p.cohort, p.tutor, false, false, false⟩
            ∧ s.roll.entries = l ++ r ∧ t.roll.entries = l ++ e :: r
            ∧ (∀ x ∈ l, x.joiner = false ∧ e.before x = false)
            ∧ ∀ x, r.head? = some x → x.joiner = true ∨ e.before x = true)
      ∧ (pupilAt s c = none ∨ (recordAt s c).presence ≠ .onSite
            ∨ (∃ e ∈ s.roll.entries, e.slot = c) → t.roll.entries = s.roll.entries))
    ∧ (c = 2048 → exec .rollBuildComplete s = .next { s with
        roll := { s.roll with state := if s.roll.alarm = true then .active else .standing } }))
  ∧ (∀ (s u : State) (slot : Nat) (presence : Presence) (rest : List PresencePass),
    s.lines.resetN = true → s.wires.toRoll = ⟨slot, presence⟩ :: rest →
    u = { s with wires := { s.wires with toRoll := rest } } →
    (s.roll.state = .idle → exec .presenceChange s = .next u)
    ∧ (s.roll.state ≠ .idle →
      (presence ≠ .onSite ∨ (∃ e ∈ s.roll.entries, e.slot = slot) →
        exec .presenceChange s = .next { u with roll := { s.roll with
          entries := s.roll.entries.map fun e =>
            if e.slot = slot then { e with departed := decide (presence ≠ .onSite) } else e } })
      ∧ ∀ p, presence = .onSite → (∀ e ∈ s.roll.entries, e.slot ≠ slot) →
        pupilAt s slot = some p →
        ((∀ c, s.roll.state = .building c → slot < c) →
          exec .presenceChange s = .next { u with roll := { s.roll with
            entries := s.roll.entries ++ [⟨slot, p.cohort, p.tutor, false, true, false⟩] } })
        ∧ ∀ c, s.roll.state = .building c → c ≤ slot → exec .presenceChange s = .next u))
  ∧ (∀ (s : State) (f : Frame) (start : Nat), Ready s f .readRoll →
    (2047 < start → exec (.readRoll f start) s
      = .next (s.replied f .readRoll .badField false .empty))
    ∧ (start ≤ 2047 → ∃ part : ListPart RollItem, exec (.readRoll f start) s
        = .next (s.replied f .readRoll .ok false (.roll ⟨s.roll.alarm, s.roll.state,
            s.roll.entries.length,
            s.roll.entries.countP fun e => !e.accounted && !e.departed⟩ part))
      ∧ (∀ i : Nat, i < part.items.length → part.items[i]?
          = (s.roll.entries[start + i]?).map fun e => ⟨start + i, e, refAt s e.slot⟩)
      ∧ (start < s.roll.entries.length → part.items ≠ [])
      ∧ ReadFrom (s.port f.port).limit
          (Config.fixedOctets (⟨s.roll.alarm, s.roll.state, s.roll.entries.length,
            s.roll.entries.countP fun e => !e.accounted && !e.departed⟩ : RollRead)) start
          (s.roll.entries.mapIdx fun i e => ⟨i, e, refAt s e.slot⟩) part))
  ∧ (∀ (s : State) (f : Frame) (req : AccountReq) (names : RollEntry → Bool),
    Ready s f .account →
    ((∃ k, req = .slot k ∧ names = fun e => e.slot == k)
      ∨ ∃ g, req = .tutor g ∧ names = fun e => e.tutor == g) →
    ((∃ k, req = .slot k ∧ 2047 < k) ∨ (∃ g, req = .tutor g ∧ 63 < g) →
      exec (.account f req) s = .next (s.replied f .account .badField false .empty))
    ∧ ((∃ k, req = .slot k ∧ k ≤ 2047) ∨ (∃ g, req = .tutor g ∧ g ≤ 63) →
      (s.roll.state = .idle →
        exec (.account f req) s = .next (s.replied f .account .busy false .empty))
      ∧ (s.roll.state ≠ .idle → s.roll.entries.any names = false →
        exec (.account f req) s = .next (s.replied f .account .notFound false .empty))
      ∧ (s.roll.state ≠ .idle → s.roll.entries.any names = true →
        ∃ entries : List RollEntry,
          entries = s.roll.entries.map
            (fun e => if names e then { e with accounted := true } else e)
          ∧ exec (.account f req) s = .next (State.replied f .account .ok false
              (.accounted (s.roll.entries.countP fun e => names e && !e.accounted)
                (entries.countP fun e => !e.accounted && !e.departed))
              { s with roll := { s.roll with entries := entries } }))))
  ∧ ∀ (s : State) (f : Frame), Ready s f .rollClose →
    (s.roll.state ≠ .standing →
      exec (.rollClose f) s = .next (s.replied f .rollClose .busy false .empty))
    ∧ (s.roll.state = .standing →
      exec (.rollClose f) s = .next (State.replied f .rollClose .ok false
        (.rollClosed s.roll.entries.length
          (s.roll.entries.countP fun e => !e.accounted && !e.departed))
        { s with roll := ⟨s.roll.alarm, .idle, []⟩ }))

/-! ### The Link Interface -/

/-- R161 to R163: a port that listens starts a frame on a sync octet. A header that fails its check, a
length over 240, a CRC that does not match, a gap inside a frame and a frame on a port in service each
record their cause on the port, add one to its discarded count, which stays at 255, and send no reply; a
frame of unknown kind is answered UNKNOWN_KIND. A request of any kind is then taken so too: passed over by
a port that is not listening, OVERLAP on one in service, answered REFUSED_ROLE from a role the
kind-and-role table does not give it, and BAD_FIELD in a form that does not suit. A port that is not
listening, or gathers no frame, is left alone. -/
def Obligations.ReceiversRecordTheirFaults : Prop :=
  (∀ (s : State) (c : Instr) (f : Frame) (k : Kind) (r : Port), c.asRequest = some (f, k) →
    s.port f.port = r →
    (s.lines.resetN = false ∨ r.state ≠ .active ∨ r.role = .none → exec c s = .next s)
    ∧ (s.lines.resetN = true → r.state = .active → r.role ≠ .none →
      (∀ kind tag unanswered, r.service = .inService kind tag unanswered →
        exec c s = .next (s.setPort f.port { r with
          receive := .hunting, faults := { r.faults with overlap := true }
          discarded := min 255 (r.discarded + 1) }))
      ∧ (r.service = .idle →
        (k.allows r.role = false →
          exec c s = .next (s.replied f k .refusedRole false .empty))
        ∧ (k.allows r.role = true → f.suits = false →
          exec c s = .next (s.replied f k .badField false .empty)))))
  ∧ (∀ (k : Kind) (role : Role), k.allows role = true ↔
    (role ≠ .none ∧ k ∈ [Kind.readTime, .setReplyLimit, .linkStatus])
    ∨ (role = .records ∧ k ∈ [Kind.setTime, .restart, .writePlan, .writeCohorts, .writeSettings,
        .writePupil, .clearPupil, .writeWindow, .readChanges, .termReset])
    ∨ ((role = .records ∨ role = .desk) ∧ k ∈ [Kind.dayOpen, .dayClose, .readPlan, .writeQuiet,
        .readPupil, .readRegister, .readStanding, .cancelStanding, .readTotals, .portPark,
        .portRelease, .portCycle, .readFaults, .clearFaults])
    ∨ ((role = .records ∨ role = .desk ∨ role = .terminal) ∧ k = .readTimetable)
    ∨ ((role = .desk ∨ role = .terminal) ∧ k = .mark)
    ∨ ((role = .desk ∨ role = .kiosk) ∧ k = .signIn)
    ∨ (role = .desk ∧ k ∈ [Kind.shift, .ring, .groupMark, .signOut, .routeHold, .readCalls,
        .confirmNotice, .clearCall, .readRoll, .account, .rollClose])
    ∨ (role = .gateway ∧ k ∈ [Kind.notice, .takeMessage, .messageResult]))
  ∧ ∀ (s : State) (p : PortId) (r : Port), s.lines.resetN = true → s.port p = r →
    ((r.state ≠ .active ∨ r.role = .none) → exec (.syncOctet p) s = .next s
      ∧ (∀ h, exec (.frameHeaderFault p h) s = .next s)
      ∧ (∀ octets crc, exec (.frameCheckFault p octets crc) s = .next s)
      ∧ exec (.receiveGapTimeout p) s = .next s ∧ exec (.frameOverlap p) s = .next s
      ∧ ∀ kind tag, exec (.unknownKindFrame p kind tag) s = .next s)
    ∧ (r.state = .active → r.role ≠ .none →
      exec (.syncOctet p) s = .next (s.setPort p { r with receive := .inFrame })
      ∧ (r.receive = .hunting →
        (∀ h, exec (.frameHeaderFault p h) s = .next s)
        ∧ (∀ octets crc, exec (.frameCheckFault p octets crc) s = .next s)
        ∧ exec (.receiveGapTimeout p) s = .next s)
      ∧ (r.receive = .inFrame →
        (∀ kind tag length check : Octet,
          check.toNat ≠ 255 - (kind.toNat + tag.toNat + length.toNat) % 256 →
          exec (.frameHeaderFault p ⟨kind, tag, length, check⟩) s
            = .next (s.setPort p { r with
                receive := if 0x5A ∈ [kind, tag, length, check] then .inFrame else .hunting
                faults := { r.faults with header := true }
                discarded := min 255 (r.discarded + 1) }))
        ∧ (∀ kind tag length check : Octet,
          check.toNat = 255 - (kind.toNat + tag.toNat + length.toNat) % 256 →
          240 < length.toNat →
          exec (.frameHeaderFault p ⟨kind, tag, length, check⟩) s
            = .next (s.setPort p { r with
                receive := if 0x5A ∈ [kind, tag, length, check] then .inFrame else .hunting
                faults := { r.faults with length := true }
                discarded := min 255 (r.discarded + 1) }))
        ∧ (∀ (kind tag length check : Octet) (payload : List Octet) (crc : BitVec 16),
          check.toNat = 255 - (kind.toNat + tag.toNat + length.toNat) % 256 →
          payload.length = length.toNat → length.toNat ≤ 240 →
          frameCrc (kind :: tag :: length :: check :: payload) ≠ crc →
          exec (.frameCheckFault p (kind :: tag :: length :: check :: payload) crc) s
            = .next (s.setPort p { r with
                receive := .hunting, faults := { r.faults with check := true }
                discarded := min 255 (r.discarded + 1) }))
        ∧ exec (.receiveGapTimeout p) s
            = .next (s.setPort p { r with
                receive := .hunting, faults := { r.faults with truncated := true }
                discarded := min 255 (r.discarded + 1) }))
      ∧ (∀ kind tag unanswered, r.service = .inService kind tag unanswered →
        exec (.frameOverlap p) s
          = .next (s.setPort p { r with
              receive := .hunting, faults := { r.faults with overlap := true }
              discarded := min 255 (r.discarded + 1) }))
      ∧ ∀ kind tag, (∀ k : Kind, k.octet ≠ kind) → r.service = .idle →
        exec (.unknownKindFrame p kind tag) s
          = .next (s.setPort p { r with
              service := .inService kind tag false, receive := .hunting
              faults := ⟨false, false, false, false, false⟩, discarded := 0
              reply := some ⟨kind ||| 0x80, tag,
                ⟨.unknownKind, r.faults, r.discarded, false, s.link.fault.isSome⟩,
                .empty⟩ }))

/-- R160, R167, R168: PORT-PARK, PORT-RELEASE and PORT-CYCLE of a target over 5 are BAD_FIELD, and so
are a park and a cycle of the asking port. A park makes its target PARKED and a cycle CYCLING: of an
ACTIVE target a partial frame and a reply being sent are dropped, the port then IDLE, and a request in
service stays in service and will not be answered; the role, the limit, the faults and the discarded
count stay. A release, or the end of a cycle, makes its target ACTIVE with its receiver HUNTING. A cycle
of a CYCLING port is BUSY. Where the reply that a park or a cycle stops is the OK of a RESTART, that
RESTART takes effect at that moment (R18), leaving what its effect leaves at the end of its reply; that
the asking request is then one of those dropped without a reply is the model's reading (log 19). -/
def Obligations.PortsAreParkedReleasedAndCycled : Prop :=
  (∀ (s : State) (f : Frame) (target : Nat), 5 < target →
    (Ready s f .portPark → exec (.portPark f target) s
      = .next (s.replied f .portPark .badField false .empty))
    ∧ (Ready s f .portRelease → exec (.portRelease f target) s
      = .next (s.replied f .portRelease .badField false .empty))
    ∧ (Ready s f .portCycle → exec (.portCycle f target) s
      = .next (s.replied f .portCycle .badField false .empty)))
  ∧ (∀ (s : State) (f : Frame) (q : PortId) (r : Port) (left : Service), s.port q = r →
    q ≠ f.port →
    (r.reply ≠ none ∨ r.service = .idle → left = .idle) →
    (∀ kind tag unanswered, r.reply = none → r.service = .inService kind tag unanswered →
      left = .inService kind tag true) →
    (Ready s f .portPark →
      (r.state = .active → ∀ a, r.reply = some a → a.kind ≠ 0x85 ∨ a.head.status ≠ .ok) →
      exec (.portPark f q) s
        = .next (State.replied f .portPark .ok false (.portMoved r.state .parked)
            (s.setPort q (match r.state with
              | .active => { r with state := .parked, cycleEnd := none, receive := .hunting,
                                    reply := none, service := left }
              | .cycling => { r with state := .parked, cycleEnd := none }
              | .parked => r))))
    ∧ (Ready s f .portRelease →
      exec (.portRelease f q) s
        = .next (State.replied f .portRelease .ok false (.portMoved r.state .active)
            (s.setPort q (if r.state = .active then r
              else { r with state := .active, cycleEnd := none, receive := .hunting }))))
    ∧ (Ready s f .portCycle →
      (r.state = .cycling → exec (.portCycle f q) s
        = .next (s.replied f .portCycle .busy false .empty))
      ∧ (r.state = .active →
          (∀ a, r.reply = some a → a.kind ≠ 0x85 ∨ a.head.status ≠ .ok) →
          exec (.portCycle f q) s
        = .next (State.replied f .portCycle .ok false .empty
            (s.setPort q { r with state := .cycling, cycleEnd := some 65536, receive := .hunting,
                                  reply := none, service := left })))
      ∧ (r.state = .parked → exec (.portCycle f q) s
        = .next (State.replied f .portCycle .ok false .empty
            (s.setPort q { r with state := .cycling, cycleEnd := some 65536 })))))
  ∧ (∀ (s : State) (f : Frame) (q : PortId) (a : Reply), q ≠ f.port → (s.port q).state = .active →
    (s.port q).reply = some a → a.kind = 0x85 → a.head.status = .ok → ∀ c : Instr,
    (c = .portPark f q ∧ Ready s f .portPark) ∨ (c = .portCycle f q ∧ Ready s f .portCycle) →
    ∃ t, exec c s = .next t
      ∧ exec .restartEffect { s with link := { s.link with restartDue := true } } = .next t
      ∧ t.day = .reset ∧ t.clock = s.clock ∧ (∀ x : PortId, t.port x = .reset (s.port x).role))
  ∧ (∀ (s : State) (f : Frame),
    (Ready s f .portPark → exec (.portPark f f.port) s
      = .next (s.replied f .portPark .badField false .empty))
    ∧ (Ready s f .portCycle → exec (.portCycle f f.port) s
      = .next (s.replied f .portCycle .badField false .empty))
    ∧ (Ready s f .portRelease → exec (.portRelease f f.port) s
      = .next (s.replied f .portRelease .ok false (.portMoved .active .active))))
  ∧ ∀ (s : State) (q : PortId), s.lines.resetN = true →
    ((s.port q).state = .cycling → exec (.portCycleEnd q) s
      = .next (s.setPort q { s.port q with
          state := .active, cycleEnd := none, receive := .hunting }))
    ∧ ((s.port q).state ≠ .cycling → exec (.portCycleEnd q) s = .next s)

/-- R165, R166, R169, R170: LINK-STATUS, from a port of any role, gives the record of every port
and changes nothing but its own, whose link fault set and discarded count go into the reply head and are
cleared; SET-REPLY-LIMIT brings its value into 16 to 240 and makes it the port's limit. READ-FAULTS gives
the first-fault record and the more flags; CLEAR-FAULTS gives them too and clears them. A fault report is
captured in a record that is not valid and sets its class's flag otherwise, and a CARD_RETRY under
ignore-soft is passed over. That the reply of CLEAR-FAULTS is formed after the clear, so that its
fault-valid flag is clear, is the model's choice (log 41). -/
def Obligations.LimitsStatusAndFirstFault : Prop :=
  (∀ (s : State) (f : Frame) (octets : Nat), Ready s f .setReplyLimit →
    exec (.setReplyLimit f octets) s
      = .next (State.replied f .setReplyLimit .ok (decide (octets < 16 ∨ 240 < octets))
          (.replyLimit (max 16 (min 240 octets)))
          (s.setPort f.port { s.port f.port with limit := max 16 (min 240 octets) })))
  ∧ (∀ role : Role, role ≠ .none → Kind.linkStatus.allows role = true)
  ∧ (∀ (s : State) (f : Frame), Ready s f .linkStatus →
    ∃ (ports : Vector PortReport 6) (t : State) (reply : Reply),
    exec (.linkStatus f) s = .next t
    ∧ t = s.replied f .linkStatus .ok false (.linkStatus f.port ports s.link.fault.isSome)
    ∧ (∀ q : PortId, ports[q] = ⟨(s.port q).role, (s.port q).state,
        decide (q = f.port ∨ (s.port q).service ≠ .idle), (s.port q).limit, (s.port q).faults,
        (s.port q).discarded⟩)
    ∧ (t.port f.port).reply = some reply
    ∧ reply.head.faults = (s.port f.port).faults ∧ reply.head.discarded = (s.port f.port).discarded
    ∧ (t.port f.port).faults = .none ∧ (t.port f.port).discarded = 0
    ∧ ∀ q, q ≠ f.port → t.port q = s.port q)
  ∧ (∀ (s : State) (f : Frame), Ready s f .readFaults →
    exec (.readFaults f) s
      = .next (s.replied f .readFaults .ok false (.faults s.link.fault s.link.more)))
  ∧ (∀ (s : State) (f : Frame), Ready s f .clearFaults →
    exec (.clearFaults f) s
      = .next (State.replied f .clearFaults .ok false (.faults s.link.fault s.link.more)
          { s with link := { s.link with fault := none, more := ⟨false, false, false⟩ } }))
  ∧ ∀ (s : State) (r : FaultRecord),
    (r.kind = .cardRetry → s.store.settings.ignoreSoft = true → reportFault r s = s)
    ∧ ((r.kind ≠ .cardRetry ∨ s.store.settings.ignoreSoft = false) →
      (s.link.fault = none →
        reportFault r s = { s with link := { s.link with fault := some r } })
      ∧ (s.link.fault ≠ none →
        ((r.kind = .unknownCard ∨ r.kind = .cardMismatch ∨ r.kind = .cardRetry) →
          reportFault r s = { s with link := { s.link with
            more := { s.link.more with identity := true } } })
        ∧ (r.kind = .gatewayTimeout →
          reportFault r s = { s with link := { s.link with
            more := { s.link.more with messaging := true } } })
        ∧ ((r.kind = .queueFull ∨ r.kind = .callListFull ∨ r.kind = .standingFull
              ∨ r.kind = .trailOverrun) →
          reportFault r s = { s with link := { s.link with
            more := { s.link.more with capacity := true } } })))
end

