-- ==== Sys2Proof/Laws/State.lean ====
section
/-! SUPPORT. One lemma for each field and each update of the state, so that no proof unfolds a record
update. -/

namespace Sys2Proof.Machine

open Sys2Proof

variable (s : State)

/-! ### setPort -/

@[simp] theorem setPort_clock (p : PortId) (r : Port) : (s.setPort p r).clock = s.clock := rfl
@[simp] theorem setPort_day (p : PortId) (r : Port) : (s.setPort p r).day = s.day := rfl
@[simp] theorem setPort_store (p : PortId) (r : Port) : (s.setPort p r).store = s.store := rfl
@[simp] theorem setPort_timetable (p : PortId) (r : Port) : (s.setPort p r).timetable = s.timetable := rfl
@[simp] theorem setPort_bells (p : PortId) (r : Port) : (s.setPort p r).bells = s.bells := rfl
@[simp] theorem setPort_pupils (p : PortId) (r : Port) : (s.setPort p r).pupils = s.pupils := rfl
@[simp] theorem setPort_register (p : PortId) (r : Port) : (s.setPort p r).register = s.register := rfl
@[simp] theorem setPort_arrivals (p : PortId) (r : Port) : (s.setPort p r).arrivals = s.arrivals := rfl
@[simp] theorem setPort_messages (p : PortId) (r : Port) : (s.setPort p r).messages = s.messages := rfl
@[simp] theorem setPort_totals (p : PortId) (r : Port) : (s.setPort p r).totals = s.totals := rfl
@[simp] theorem setPort_roll (p : PortId) (r : Port) : (s.setPort p r).roll = s.roll := rfl
@[simp] theorem setPort_link (p : PortId) (r : Port) : (s.setPort p r).link = { s.link with ports := s.link.ports.set p r } := rfl
@[simp] theorem setPort_wires (p : PortId) (r : Port) : (s.setPort p r).wires = s.wires := rfl
@[simp] theorem setPort_lines (p : PortId) (r : Port) : (s.setPort p r).lines = s.lines := rfl
@[simp] theorem setPort_pending (p : PortId) (r : Port) : (s.setPort p r).pending = s.pending := rfl

/-! ### setPupil -/

@[simp] theorem setPupil_clock (k : Nat) (r : Option Pupil) : (setPupil k r s).clock = s.clock := rfl
@[simp] theorem setPupil_day (k : Nat) (r : Option Pupil) : (setPupil k r s).day = s.day := rfl
@[simp] theorem setPupil_store (k : Nat) (r : Option Pupil) : (setPupil k r s).store = s.store := rfl
@[simp] theorem setPupil_timetable (k : Nat) (r : Option Pupil) : (setPupil k r s).timetable = s.timetable := rfl
@[simp] theorem setPupil_bells (k : Nat) (r : Option Pupil) : (setPupil k r s).bells = s.bells := rfl
@[simp] theorem setPupil_pupils (k : Nat) (r : Option Pupil) : (setPupil k r s).pupils = { s.pupils with pupils := writeSlot none s.pupils.pupils k r } := rfl
@[simp] theorem setPupil_register (k : Nat) (r : Option Pupil) : (setPupil k r s).register = s.register := rfl
@[simp] theorem setPupil_arrivals (k : Nat) (r : Option Pupil) : (setPupil k r s).arrivals = s.arrivals := rfl
@[simp] theorem setPupil_messages (k : Nat) (r : Option Pupil) : (setPupil k r s).messages = s.messages := rfl
@[simp] theorem setPupil_totals (k : Nat) (r : Option Pupil) : (setPupil k r s).totals = s.totals := rfl
@[simp] theorem setPupil_roll (k : Nat) (r : Option Pupil) : (setPupil k r s).roll = s.roll := rfl
@[simp] theorem setPupil_link (k : Nat) (r : Option Pupil) : (setPupil k r s).link = s.link := rfl
@[simp] theorem setPupil_wires (k : Nat) (r : Option Pupil) : (setPupil k r s).wires = s.wires := rfl
@[simp] theorem setPupil_lines (k : Nat) (r : Option Pupil) : (setPupil k r s).lines = s.lines := rfl
@[simp] theorem setPupil_pending (k : Nat) (r : Option Pupil) : (setPupil k r s).pending = s.pending := rfl

/-! ### setRecord -/

@[simp] theorem setRecord_clock (k : Nat) (r : RegisterRecord) : (setRecord k r s).clock = s.clock := rfl
@[simp] theorem setRecord_day (k : Nat) (r : RegisterRecord) : (setRecord k r s).day = s.day := rfl
@[simp] theorem setRecord_store (k : Nat) (r : RegisterRecord) : (setRecord k r s).store = s.store := rfl
@[simp] theorem setRecord_timetable (k : Nat) (r : RegisterRecord) : (setRecord k r s).timetable = s.timetable := rfl
@[simp] theorem setRecord_bells (k : Nat) (r : RegisterRecord) : (setRecord k r s).bells = s.bells := rfl
@[simp] theorem setRecord_pupils (k : Nat) (r : RegisterRecord) : (setRecord k r s).pupils = s.pupils := rfl
@[simp] theorem setRecord_register (k : Nat) (r : RegisterRecord) : (setRecord k r s).register = { s.register with records := writeSlot noRecord s.register.records k r } := rfl
@[simp] theorem setRecord_arrivals (k : Nat) (r : RegisterRecord) : (setRecord k r s).arrivals = s.arrivals := rfl
@[simp] theorem setRecord_messages (k : Nat) (r : RegisterRecord) : (setRecord k r s).messages = s.messages := rfl
@[simp] theorem setRecord_totals (k : Nat) (r : RegisterRecord) : (setRecord k r s).totals = s.totals := rfl
@[simp] theorem setRecord_roll (k : Nat) (r : RegisterRecord) : (setRecord k r s).roll = s.roll := rfl
@[simp] theorem setRecord_link (k : Nat) (r : RegisterRecord) : (setRecord k r s).link = s.link := rfl
@[simp] theorem setRecord_wires (k : Nat) (r : RegisterRecord) : (setRecord k r s).wires = s.wires := rfl
@[simp] theorem setRecord_lines (k : Nat) (r : RegisterRecord) : (setRecord k r s).lines = s.lines := rfl
@[simp] theorem setRecord_pending (k : Nat) (r : RegisterRecord) : (setRecord k r s).pending = s.pending := rfl

/-! ### setHold -/

@[simp] theorem setHold_clock (k : Nat) (h : Option RouteHold) : (setHold k h s).clock = s.clock := rfl
@[simp] theorem setHold_day (k : Nat) (h : Option RouteHold) : (setHold k h s).day = s.day := rfl
@[simp] theorem setHold_store (k : Nat) (h : Option RouteHold) : (setHold k h s).store = s.store := rfl
@[simp] theorem setHold_timetable (k : Nat) (h : Option RouteHold) : (setHold k h s).timetable = s.timetable := rfl
@[simp] theorem setHold_bells (k : Nat) (h : Option RouteHold) : (setHold k h s).bells = s.bells := rfl
@[simp] theorem setHold_pupils (k : Nat) (h : Option RouteHold) : (setHold k h s).pupils = s.pupils := rfl
@[simp] theorem setHold_register (k : Nat) (h : Option RouteHold) : (setHold k h s).register = s.register := rfl
@[simp] theorem setHold_arrivals (k : Nat) (h : Option RouteHold) : (setHold k h s).arrivals = { s.arrivals with holds := writeSlot none s.arrivals.holds k h } := rfl
@[simp] theorem setHold_messages (k : Nat) (h : Option RouteHold) : (setHold k h s).messages = s.messages := rfl
@[simp] theorem setHold_totals (k : Nat) (h : Option RouteHold) : (setHold k h s).totals = s.totals := rfl
@[simp] theorem setHold_roll (k : Nat) (h : Option RouteHold) : (setHold k h s).roll = s.roll := rfl
@[simp] theorem setHold_link (k : Nat) (h : Option RouteHold) : (setHold k h s).link = s.link := rfl
@[simp] theorem setHold_wires (k : Nat) (h : Option RouteHold) : (setHold k h s).wires = s.wires := rfl
@[simp] theorem setHold_lines (k : Nat) (h : Option RouteHold) : (setHold k h s).lines = s.lines := rfl
@[simp] theorem setHold_pending (k : Nat) (h : Option RouteHold) : (setHold k h s).pending = s.pending := rfl

/-! ### setTotals -/

@[simp] theorem setTotals_clock (k : Nat) (r : Accumulator) : (setTotals k r s).clock = s.clock := rfl
@[simp] theorem setTotals_day (k : Nat) (r : Accumulator) : (setTotals k r s).day = s.day := rfl
@[simp] theorem setTotals_store (k : Nat) (r : Accumulator) : (setTotals k r s).store = s.store := rfl
@[simp] theorem setTotals_timetable (k : Nat) (r : Accumulator) : (setTotals k r s).timetable = s.timetable := rfl
@[simp] theorem setTotals_bells (k : Nat) (r : Accumulator) : (setTotals k r s).bells = s.bells := rfl
@[simp] theorem setTotals_pupils (k : Nat) (r : Accumulator) : (setTotals k r s).pupils = s.pupils := rfl
@[simp] theorem setTotals_register (k : Nat) (r : Accumulator) : (setTotals k r s).register = s.register := rfl
@[simp] theorem setTotals_arrivals (k : Nat) (r : Accumulator) : (setTotals k r s).arrivals = s.arrivals := rfl
@[simp] theorem setTotals_messages (k : Nat) (r : Accumulator) : (setTotals k r s).messages = s.messages := rfl
@[simp] theorem setTotals_totals (k : Nat) (r : Accumulator) : (setTotals k r s).totals = { s.totals with records := writeSlot zeroAccumulator s.totals.records k r } := rfl
@[simp] theorem setTotals_roll (k : Nat) (r : Accumulator) : (setTotals k r s).roll = s.roll := rfl
@[simp] theorem setTotals_link (k : Nat) (r : Accumulator) : (setTotals k r s).link = s.link := rfl
@[simp] theorem setTotals_wires (k : Nat) (r : Accumulator) : (setTotals k r s).wires = s.wires := rfl
@[simp] theorem setTotals_lines (k : Nat) (r : Accumulator) : (setTotals k r s).lines = s.lines := rfl
@[simp] theorem setTotals_pending (k : Nat) (r : Accumulator) : (setTotals k r s).pending = s.pending := rfl

/-! ### onBells -/

@[simp] theorem onBells_clock (f : BellUnit → BellUnit) : (s.onBells f).clock = s.clock := rfl
@[simp] theorem onBells_day (f : BellUnit → BellUnit) : (s.onBells f).day = s.day := rfl
@[simp] theorem onBells_store (f : BellUnit → BellUnit) : (s.onBells f).store = s.store := rfl
@[simp] theorem onBells_timetable (f : BellUnit → BellUnit) : (s.onBells f).timetable = s.timetable := rfl
@[simp] theorem onBells_bells (f : BellUnit → BellUnit) : (s.onBells f).bells = f s.bells := rfl
@[simp] theorem onBells_pupils (f : BellUnit → BellUnit) : (s.onBells f).pupils = s.pupils := rfl
@[simp] theorem onBells_register (f : BellUnit → BellUnit) : (s.onBells f).register = s.register := rfl
@[simp] theorem onBells_arrivals (f : BellUnit → BellUnit) : (s.onBells f).arrivals = s.arrivals := rfl
@[simp] theorem onBells_messages (f : BellUnit → BellUnit) : (s.onBells f).messages = s.messages := rfl
@[simp] theorem onBells_totals (f : BellUnit → BellUnit) : (s.onBells f).totals = s.totals := rfl
@[simp] theorem onBells_roll (f : BellUnit → BellUnit) : (s.onBells f).roll = s.roll := rfl
@[simp] theorem onBells_link (f : BellUnit → BellUnit) : (s.onBells f).link = s.link := rfl
@[simp] theorem onBells_wires (f : BellUnit → BellUnit) : (s.onBells f).wires = s.wires := rfl
@[simp] theorem onBells_lines (f : BellUnit → BellUnit) : (s.onBells f).lines = s.lines := rfl
@[simp] theorem onBells_pending (f : BellUnit → BellUnit) : (s.onBells f).pending = s.pending := rfl

/-! ### onRegister -/

@[simp] theorem onRegister_clock (f : DayRegister → DayRegister) : (s.onRegister f).clock = s.clock := rfl
@[simp] theorem onRegister_day (f : DayRegister → DayRegister) : (s.onRegister f).day = s.day := rfl
@[simp] theorem onRegister_store (f : DayRegister → DayRegister) : (s.onRegister f).store = s.store := rfl
@[simp] theorem onRegister_timetable (f : DayRegister → DayRegister) : (s.onRegister f).timetable = s.timetable := rfl
@[simp] theorem onRegister_bells (f : DayRegister → DayRegister) : (s.onRegister f).bells = s.bells := rfl
@[simp] theorem onRegister_pupils (f : DayRegister → DayRegister) : (s.onRegister f).pupils = s.pupils := rfl
@[simp] theorem onRegister_register (f : DayRegister → DayRegister) : (s.onRegister f).register = f s.register := rfl
@[simp] theorem onRegister_arrivals (f : DayRegister → DayRegister) : (s.onRegister f).arrivals = s.arrivals := rfl
@[simp] theorem onRegister_messages (f : DayRegister → DayRegister) : (s.onRegister f).messages = s.messages := rfl
@[simp] theorem onRegister_totals (f : DayRegister → DayRegister) : (s.onRegister f).totals = s.totals := rfl
@[simp] theorem onRegister_roll (f : DayRegister → DayRegister) : (s.onRegister f).roll = s.roll := rfl
@[simp] theorem onRegister_link (f : DayRegister → DayRegister) : (s.onRegister f).link = s.link := rfl
@[simp] theorem onRegister_wires (f : DayRegister → DayRegister) : (s.onRegister f).wires = s.wires := rfl
@[simp] theorem onRegister_lines (f : DayRegister → DayRegister) : (s.onRegister f).lines = s.lines := rfl
@[simp] theorem onRegister_pending (f : DayRegister → DayRegister) : (s.onRegister f).pending = s.pending := rfl

/-! ### onMessages -/

@[simp] theorem onMessages_clock (f : MessageUnit → MessageUnit) : (s.onMessages f).clock = s.clock := rfl
@[simp] theorem onMessages_day (f : MessageUnit → MessageUnit) : (s.onMessages f).day = s.day := rfl
@[simp] theorem onMessages_store (f : MessageUnit → MessageUnit) : (s.onMessages f).store = s.store := rfl
@[simp] theorem onMessages_timetable (f : MessageUnit → MessageUnit) : (s.onMessages f).timetable = s.timetable := rfl
@[simp] theorem onMessages_bells (f : MessageUnit → MessageUnit) : (s.onMessages f).bells = s.bells := rfl
@[simp] theorem onMessages_pupils (f : MessageUnit → MessageUnit) : (s.onMessages f).pupils = s.pupils := rfl
@[simp] theorem onMessages_register (f : MessageUnit → MessageUnit) : (s.onMessages f).register = s.register := rfl
@[simp] theorem onMessages_arrivals (f : MessageUnit → MessageUnit) : (s.onMessages f).arrivals = s.arrivals := rfl
@[simp] theorem onMessages_messages (f : MessageUnit → MessageUnit) : (s.onMessages f).messages = f s.messages := rfl
@[simp] theorem onMessages_totals (f : MessageUnit → MessageUnit) : (s.onMessages f).totals = s.totals := rfl
@[simp] theorem onMessages_roll (f : MessageUnit → MessageUnit) : (s.onMessages f).roll = s.roll := rfl
@[simp] theorem onMessages_link (f : MessageUnit → MessageUnit) : (s.onMessages f).link = s.link := rfl
@[simp] theorem onMessages_wires (f : MessageUnit → MessageUnit) : (s.onMessages f).wires = s.wires := rfl
@[simp] theorem onMessages_lines (f : MessageUnit → MessageUnit) : (s.onMessages f).lines = s.lines := rfl
@[simp] theorem onMessages_pending (f : MessageUnit → MessageUnit) : (s.onMessages f).pending = s.pending := rfl

/-! ### onRoll -/

@[simp] theorem onRoll_clock (f : SiteRoll → SiteRoll) : (s.onRoll f).clock = s.clock := rfl
@[simp] theorem onRoll_day (f : SiteRoll → SiteRoll) : (s.onRoll f).day = s.day := rfl
@[simp] theorem onRoll_store (f : SiteRoll → SiteRoll) : (s.onRoll f).store = s.store := rfl
@[simp] theorem onRoll_timetable (f : SiteRoll → SiteRoll) : (s.onRoll f).timetable = s.timetable := rfl
@[simp] theorem onRoll_bells (f : SiteRoll → SiteRoll) : (s.onRoll f).bells = s.bells := rfl
@[simp] theorem onRoll_pupils (f : SiteRoll → SiteRoll) : (s.onRoll f).pupils = s.pupils := rfl
@[simp] theorem onRoll_register (f : SiteRoll → SiteRoll) : (s.onRoll f).register = s.register := rfl
@[simp] theorem onRoll_arrivals (f : SiteRoll → SiteRoll) : (s.onRoll f).arrivals = s.arrivals := rfl
@[simp] theorem onRoll_messages (f : SiteRoll → SiteRoll) : (s.onRoll f).messages = s.messages := rfl
@[simp] theorem onRoll_totals (f : SiteRoll → SiteRoll) : (s.onRoll f).totals = s.totals := rfl
@[simp] theorem onRoll_roll (f : SiteRoll → SiteRoll) : (s.onRoll f).roll = f s.roll := rfl
@[simp] theorem onRoll_link (f : SiteRoll → SiteRoll) : (s.onRoll f).link = s.link := rfl
@[simp] theorem onRoll_wires (f : SiteRoll → SiteRoll) : (s.onRoll f).wires = s.wires := rfl
@[simp] theorem onRoll_lines (f : SiteRoll → SiteRoll) : (s.onRoll f).lines = s.lines := rfl
@[simp] theorem onRoll_pending (f : SiteRoll → SiteRoll) : (s.onRoll f).pending = s.pending := rfl

/-! ### onDay -/

@[simp] theorem onDay_clock (f : DayRecord → DayRecord) : (s.onDay f).clock = s.clock := rfl
@[simp] theorem onDay_day (f : DayRecord → DayRecord) : (s.onDay f).day = f s.day := rfl
@[simp] theorem onDay_store (f : DayRecord → DayRecord) : (s.onDay f).store = s.store := rfl
@[simp] theorem onDay_timetable (f : DayRecord → DayRecord) : (s.onDay f).timetable = s.timetable := rfl
@[simp] theorem onDay_bells (f : DayRecord → DayRecord) : (s.onDay f).bells = s.bells := rfl
@[simp] theorem onDay_pupils (f : DayRecord → DayRecord) : (s.onDay f).pupils = s.pupils := rfl
@[simp] theorem onDay_register (f : DayRecord → DayRecord) : (s.onDay f).register = s.register := rfl
@[simp] theorem onDay_arrivals (f : DayRecord → DayRecord) : (s.onDay f).arrivals = s.arrivals := rfl
@[simp] theorem onDay_messages (f : DayRecord → DayRecord) : (s.onDay f).messages = s.messages := rfl
@[simp] theorem onDay_totals (f : DayRecord → DayRecord) : (s.onDay f).totals = s.totals := rfl
@[simp] theorem onDay_roll (f : DayRecord → DayRecord) : (s.onDay f).roll = s.roll := rfl
@[simp] theorem onDay_link (f : DayRecord → DayRecord) : (s.onDay f).link = s.link := rfl
@[simp] theorem onDay_wires (f : DayRecord → DayRecord) : (s.onDay f).wires = s.wires := rfl
@[simp] theorem onDay_lines (f : DayRecord → DayRecord) : (s.onDay f).lines = s.lines := rfl
@[simp] theorem onDay_pending (f : DayRecord → DayRecord) : (s.onDay f).pending = s.pending := rfl

/-! ### onClock -/

@[simp] theorem onClock_clock (f : Clock → Clock) : (s.onClock f).clock = f s.clock := rfl
@[simp] theorem onClock_day (f : Clock → Clock) : (s.onClock f).day = s.day := rfl
@[simp] theorem onClock_store (f : Clock → Clock) : (s.onClock f).store = s.store := rfl
@[simp] theorem onClock_timetable (f : Clock → Clock) : (s.onClock f).timetable = s.timetable := rfl
@[simp] theorem onClock_bells (f : Clock → Clock) : (s.onClock f).bells = s.bells := rfl
@[simp] theorem onClock_pupils (f : Clock → Clock) : (s.onClock f).pupils = s.pupils := rfl
@[simp] theorem onClock_register (f : Clock → Clock) : (s.onClock f).register = s.register := rfl
@[simp] theorem onClock_arrivals (f : Clock → Clock) : (s.onClock f).arrivals = s.arrivals := rfl
@[simp] theorem onClock_messages (f : Clock → Clock) : (s.onClock f).messages = s.messages := rfl
@[simp] theorem onClock_totals (f : Clock → Clock) : (s.onClock f).totals = s.totals := rfl
@[simp] theorem onClock_roll (f : Clock → Clock) : (s.onClock f).roll = s.roll := rfl
@[simp] theorem onClock_link (f : Clock → Clock) : (s.onClock f).link = s.link := rfl
@[simp] theorem onClock_wires (f : Clock → Clock) : (s.onClock f).wires = s.wires := rfl
@[simp] theorem onClock_lines (f : Clock → Clock) : (s.onClock f).lines = s.lines := rfl
@[simp] theorem onClock_pending (f : Clock → Clock) : (s.onClock f).pending = s.pending := rfl

/-! ### onStore -/

@[simp] theorem onStore_clock (f : PlanStore → PlanStore) : (s.onStore f).clock = s.clock := rfl
@[simp] theorem onStore_day (f : PlanStore → PlanStore) : (s.onStore f).day = s.day := rfl
@[simp] theorem onStore_store (f : PlanStore → PlanStore) : (s.onStore f).store = f s.store := rfl
@[simp] theorem onStore_timetable (f : PlanStore → PlanStore) : (s.onStore f).timetable = s.timetable := rfl
@[simp] theorem onStore_bells (f : PlanStore → PlanStore) : (s.onStore f).bells = s.bells := rfl
@[simp] theorem onStore_pupils (f : PlanStore → PlanStore) : (s.onStore f).pupils = s.pupils := rfl
@[simp] theorem onStore_register (f : PlanStore → PlanStore) : (s.onStore f).register = s.register := rfl
@[simp] theorem onStore_arrivals (f : PlanStore → PlanStore) : (s.onStore f).arrivals = s.arrivals := rfl
@[simp] theorem onStore_messages (f : PlanStore → PlanStore) : (s.onStore f).messages = s.messages := rfl
@[simp] theorem onStore_totals (f : PlanStore → PlanStore) : (s.onStore f).totals = s.totals := rfl
@[simp] theorem onStore_roll (f : PlanStore → PlanStore) : (s.onStore f).roll = s.roll := rfl
@[simp] theorem onStore_link (f : PlanStore → PlanStore) : (s.onStore f).link = s.link := rfl
@[simp] theorem onStore_wires (f : PlanStore → PlanStore) : (s.onStore f).wires = s.wires := rfl
@[simp] theorem onStore_lines (f : PlanStore → PlanStore) : (s.onStore f).lines = s.lines := rfl
@[simp] theorem onStore_pending (f : PlanStore → PlanStore) : (s.onStore f).pending = s.pending := rfl

/-! ### tellMessages -/

@[simp] theorem tellMessages_clock (m : ToMessages) : (tellMessages m s).clock = s.clock := rfl
@[simp] theorem tellMessages_day (m : ToMessages) : (tellMessages m s).day = s.day := rfl
@[simp] theorem tellMessages_store (m : ToMessages) : (tellMessages m s).store = s.store := rfl
@[simp] theorem tellMessages_timetable (m : ToMessages) : (tellMessages m s).timetable = s.timetable := rfl
@[simp] theorem tellMessages_bells (m : ToMessages) : (tellMessages m s).bells = s.bells := rfl
@[simp] theorem tellMessages_pupils (m : ToMessages) : (tellMessages m s).pupils = s.pupils := rfl
@[simp] theorem tellMessages_register (m : ToMessages) : (tellMessages m s).register = s.register := rfl
@[simp] theorem tellMessages_arrivals (m : ToMessages) : (tellMessages m s).arrivals = s.arrivals := rfl
@[simp] theorem tellMessages_messages (m : ToMessages) : (tellMessages m s).messages = s.messages := rfl
@[simp] theorem tellMessages_totals (m : ToMessages) : (tellMessages m s).totals = s.totals := rfl
@[simp] theorem tellMessages_roll (m : ToMessages) : (tellMessages m s).roll = s.roll := rfl
@[simp] theorem tellMessages_link (m : ToMessages) : (tellMessages m s).link = s.link := rfl
@[simp] theorem tellMessages_wires (m : ToMessages) : (tellMessages m s).wires = { s.wires with toMessages := s.wires.toMessages ++ [m] } := rfl
@[simp] theorem tellMessages_lines (m : ToMessages) : (tellMessages m s).lines = s.lines := rfl
@[simp] theorem tellMessages_pending (m : ToMessages) : (tellMessages m s).pending = s.pending := rfl

/-! ### tellAccumulators -/

@[simp] theorem tellAccumulators_clock (m : ToAccumulators) : (tellAccumulators m s).clock = s.clock := rfl
@[simp] theorem tellAccumulators_day (m : ToAccumulators) : (tellAccumulators m s).day = s.day := rfl
@[simp] theorem tellAccumulators_store (m : ToAccumulators) : (tellAccumulators m s).store = s.store := rfl
@[simp] theorem tellAccumulators_timetable (m : ToAccumulators) : (tellAccumulators m s).timetable = s.timetable := rfl
@[simp] theorem tellAccumulators_bells (m : ToAccumulators) : (tellAccumulators m s).bells = s.bells := rfl
@[simp] theorem tellAccumulators_pupils (m : ToAccumulators) : (tellAccumulators m s).pupils = s.pupils := rfl
@[simp] theorem tellAccumulators_register (m : ToAccumulators) : (tellAccumulators m s).register = s.register := rfl
@[simp] theorem tellAccumulators_arrivals (m : ToAccumulators) : (tellAccumulators m s).arrivals = s.arrivals := rfl
@[simp] theorem tellAccumulators_messages (m : ToAccumulators) : (tellAccumulators m s).messages = s.messages := rfl
@[simp] theorem tellAccumulators_totals (m : ToAccumulators) : (tellAccumulators m s).totals = s.totals := rfl
@[simp] theorem tellAccumulators_roll (m : ToAccumulators) : (tellAccumulators m s).roll = s.roll := rfl
@[simp] theorem tellAccumulators_link (m : ToAccumulators) : (tellAccumulators m s).link = s.link := rfl
@[simp] theorem tellAccumulators_wires (m : ToAccumulators) : (tellAccumulators m s).wires = { s.wires with toAccumulators := s.wires.toAccumulators ++ [m] } := rfl
@[simp] theorem tellAccumulators_lines (m : ToAccumulators) : (tellAccumulators m s).lines = s.lines := rfl
@[simp] theorem tellAccumulators_pending (m : ToAccumulators) : (tellAccumulators m s).pending = s.pending := rfl

/-! ### popMessage -/

@[simp] theorem popMessage_clock (l : List ToMessages) : (popMessage l s).clock = s.clock := rfl
@[simp] theorem popMessage_day (l : List ToMessages) : (popMessage l s).day = s.day := rfl
@[simp] theorem popMessage_store (l : List ToMessages) : (popMessage l s).store = s.store := rfl
@[simp] theorem popMessage_timetable (l : List ToMessages) : (popMessage l s).timetable = s.timetable := rfl
@[simp] theorem popMessage_bells (l : List ToMessages) : (popMessage l s).bells = s.bells := rfl
@[simp] theorem popMessage_pupils (l : List ToMessages) : (popMessage l s).pupils = s.pupils := rfl
@[simp] theorem popMessage_register (l : List ToMessages) : (popMessage l s).register = s.register := rfl
@[simp] theorem popMessage_arrivals (l : List ToMessages) : (popMessage l s).arrivals = s.arrivals := rfl
@[simp] theorem popMessage_messages (l : List ToMessages) : (popMessage l s).messages = s.messages := rfl
@[simp] theorem popMessage_totals (l : List ToMessages) : (popMessage l s).totals = s.totals := rfl
@[simp] theorem popMessage_roll (l : List ToMessages) : (popMessage l s).roll = s.roll := rfl
@[simp] theorem popMessage_link (l : List ToMessages) : (popMessage l s).link = s.link := rfl
@[simp] theorem popMessage_wires (l : List ToMessages) : (popMessage l s).wires = { s.wires with toMessages := l } := rfl
@[simp] theorem popMessage_lines (l : List ToMessages) : (popMessage l s).lines = s.lines := rfl
@[simp] theorem popMessage_pending (l : List ToMessages) : (popMessage l s).pending = s.pending := rfl

/-! ### popAccrual -/

@[simp] theorem popAccrual_clock (l : List ToAccumulators) : (popAccrual l s).clock = s.clock := rfl
@[simp] theorem popAccrual_day (l : List ToAccumulators) : (popAccrual l s).day = s.day := rfl
@[simp] theorem popAccrual_store (l : List ToAccumulators) : (popAccrual l s).store = s.store := rfl
@[simp] theorem popAccrual_timetable (l : List ToAccumulators) : (popAccrual l s).timetable = s.timetable := rfl
@[simp] theorem popAccrual_bells (l : List ToAccumulators) : (popAccrual l s).bells = s.bells := rfl
@[simp] theorem popAccrual_pupils (l : List ToAccumulators) : (popAccrual l s).pupils = s.pupils := rfl
@[simp] theorem popAccrual_register (l : List ToAccumulators) : (popAccrual l s).register = s.register := rfl
@[simp] theorem popAccrual_arrivals (l : List ToAccumulators) : (popAccrual l s).arrivals = s.arrivals := rfl
@[simp] theorem popAccrual_messages (l : List ToAccumulators) : (popAccrual l s).messages = s.messages := rfl
@[simp] theorem popAccrual_totals (l : List ToAccumulators) : (popAccrual l s).totals = s.totals := rfl
@[simp] theorem popAccrual_roll (l : List ToAccumulators) : (popAccrual l s).roll = s.roll := rfl
@[simp] theorem popAccrual_link (l : List ToAccumulators) : (popAccrual l s).link = s.link := rfl
@[simp] theorem popAccrual_wires (l : List ToAccumulators) : (popAccrual l s).wires = { s.wires with toAccumulators := l } := rfl
@[simp] theorem popAccrual_lines (l : List ToAccumulators) : (popAccrual l s).lines = s.lines := rfl
@[simp] theorem popAccrual_pending (l : List ToAccumulators) : (popAccrual l s).pending = s.pending := rfl

/-! ### setTable -/

@[simp] theorem setTable_clock (t : PlanTable) : (setTable t s).clock = s.clock := rfl
@[simp] theorem setTable_day (t : PlanTable) : (setTable t s).day = s.day := rfl
@[simp] theorem setTable_store (t : PlanTable) : (setTable t s).store = s.store := rfl
@[simp] theorem setTable_bells (t : PlanTable) : (setTable t s).bells = s.bells := rfl
@[simp] theorem setTable_pupils (t : PlanTable) : (setTable t s).pupils = s.pupils := rfl
@[simp] theorem setTable_register (t : PlanTable) : (setTable t s).register = s.register := rfl
@[simp] theorem setTable_arrivals (t : PlanTable) : (setTable t s).arrivals = s.arrivals := rfl
@[simp] theorem setTable_messages (t : PlanTable) : (setTable t s).messages = s.messages := rfl
@[simp] theorem setTable_totals (t : PlanTable) : (setTable t s).totals = s.totals := rfl
@[simp] theorem setTable_roll (t : PlanTable) : (setTable t s).roll = s.roll := rfl
@[simp] theorem setTable_link (t : PlanTable) : (setTable t s).link = s.link := rfl
@[simp] theorem setTable_wires (t : PlanTable) : (setTable t s).wires = s.wires := rfl
@[simp] theorem setTable_lines (t : PlanTable) : (setTable t s).lines = s.lines := rfl
@[simp] theorem setTable_pending (t : PlanTable) : (setTable t s).pending = s.pending := rfl

/-! ### setCurrent -/

@[simp] theorem setCurrent_clock (m : Option Nat) : (setCurrent m s).clock = s.clock := rfl
@[simp] theorem setCurrent_day (m : Option Nat) : (setCurrent m s).day = s.day := rfl
@[simp] theorem setCurrent_store (m : Option Nat) : (setCurrent m s).store = s.store := rfl
@[simp] theorem setCurrent_timetable (m : Option Nat) : (setCurrent m s).timetable = { s.timetable with current := m } := rfl
@[simp] theorem setCurrent_bells (m : Option Nat) : (setCurrent m s).bells = s.bells := rfl
@[simp] theorem setCurrent_pupils (m : Option Nat) : (setCurrent m s).pupils = s.pupils := rfl
@[simp] theorem setCurrent_register (m : Option Nat) : (setCurrent m s).register = s.register := rfl
@[simp] theorem setCurrent_arrivals (m : Option Nat) : (setCurrent m s).arrivals = s.arrivals := rfl
@[simp] theorem setCurrent_messages (m : Option Nat) : (setCurrent m s).messages = s.messages := rfl
@[simp] theorem setCurrent_totals (m : Option Nat) : (setCurrent m s).totals = s.totals := rfl
@[simp] theorem setCurrent_roll (m : Option Nat) : (setCurrent m s).roll = s.roll := rfl
@[simp] theorem setCurrent_link (m : Option Nat) : (setCurrent m s).link = s.link := rfl
@[simp] theorem setCurrent_wires (m : Option Nat) : (setCurrent m s).wires = s.wires := rfl
@[simp] theorem setCurrent_lines (m : Option Nat) : (setCurrent m s).lines = s.lines := rfl
@[simp] theorem setCurrent_pending (m : Option Nat) : (setCurrent m s).pending = s.pending := rfl

/-! ### setRecompute -/

@[simp] theorem setRecompute_clock (r : Option Recompute) : (setRecompute r s).clock = s.clock := rfl
@[simp] theorem setRecompute_day (r : Option Recompute) : (setRecompute r s).day = s.day := rfl
@[simp] theorem setRecompute_store (r : Option Recompute) : (setRecompute r s).store = s.store := rfl
@[simp] theorem setRecompute_timetable (r : Option Recompute) : (setRecompute r s).timetable = { s.timetable with recompute := r } := rfl
@[simp] theorem setRecompute_bells (r : Option Recompute) : (setRecompute r s).bells = s.bells := rfl
@[simp] theorem setRecompute_pupils (r : Option Recompute) : (setRecompute r s).pupils = s.pupils := rfl
@[simp] theorem setRecompute_register (r : Option Recompute) : (setRecompute r s).register = s.register := rfl
@[simp] theorem setRecompute_arrivals (r : Option Recompute) : (setRecompute r s).arrivals = s.arrivals := rfl
@[simp] theorem setRecompute_messages (r : Option Recompute) : (setRecompute r s).messages = s.messages := rfl
@[simp] theorem setRecompute_totals (r : Option Recompute) : (setRecompute r s).totals = s.totals := rfl
@[simp] theorem setRecompute_roll (r : Option Recompute) : (setRecompute r s).roll = s.roll := rfl
@[simp] theorem setRecompute_link (r : Option Recompute) : (setRecompute r s).link = s.link := rfl
@[simp] theorem setRecompute_wires (r : Option Recompute) : (setRecompute r s).wires = s.wires := rfl
@[simp] theorem setRecompute_lines (r : Option Recompute) : (setRecompute r s).lines = s.lines := rfl
@[simp] theorem setRecompute_pending (r : Option Recompute) : (setRecompute r s).pending = s.pending := rfl

/-! ### restartPasses -/

@[simp] theorem restartPasses_clock (l : List Nat) : (restartPasses l s).clock = s.clock := rfl
@[simp] theorem restartPasses_day (l : List Nat) : (restartPasses l s).day = s.day := rfl
@[simp] theorem restartPasses_tables (l : List Nat) :
    (restartPasses l s).timetable.tables = s.timetable.tables := rfl
@[simp] theorem restartPasses_current (l : List Nat) :
    (restartPasses l s).timetable.current = s.timetable.current := rfl
@[simp] theorem restartPasses_held (l : List Nat) :
    (restartPasses l s).timetable.held = s.timetable.held := rfl
@[simp] theorem restartPasses_recompute (l : List Nat) :
    (restartPasses l s).timetable.recompute
      = s.timetable.recompute.map (·.restart s.timetable.tables l) := rfl

/-- All that a restart can make of a pass (R45, R46): it starts again from its plan's table with no
result, or stands as it was. -/
theorem Recompute.restart_pass (c : Recompute) (tables : List PlanTable) (l : List Nat) (x : Pass)
    (h : x ∈ (c.restart tables l).passes) :
    ∃ y ∈ c.passes, x = y ∨ ∃ t, tables.find? (·.plan == y.plan) = some t ∧ x = ⟨y.plan, t, none⟩ := by
  obtain ⟨y, hy, rfl⟩ := List.mem_map.1 h
  refine ⟨y, hy, ?_⟩
  split
  · rename_i t ht
    split
    · exact .inr ⟨t, ht, rfl⟩
    · exact .inl rfl
  · exact .inl rfl

@[simp] theorem restartPasses_store (l : List Nat) : (restartPasses l s).store = s.store := rfl
@[simp] theorem restartPasses_bells (l : List Nat) : (restartPasses l s).bells = s.bells := rfl
@[simp] theorem restartPasses_pupils (l : List Nat) : (restartPasses l s).pupils = s.pupils := rfl
@[simp] theorem restartPasses_register (l : List Nat) : (restartPasses l s).register = s.register := rfl
@[simp] theorem restartPasses_arrivals (l : List Nat) : (restartPasses l s).arrivals = s.arrivals := rfl
@[simp] theorem restartPasses_messages (l : List Nat) : (restartPasses l s).messages = s.messages := rfl
@[simp] theorem restartPasses_totals (l : List Nat) : (restartPasses l s).totals = s.totals := rfl
@[simp] theorem restartPasses_roll (l : List Nat) : (restartPasses l s).roll = s.roll := rfl
@[simp] theorem restartPasses_link (l : List Nat) : (restartPasses l s).link = s.link := rfl
@[simp] theorem restartPasses_wires (l : List Nat) : (restartPasses l s).wires = s.wires := rfl
@[simp] theorem restartPasses_lines (l : List Nat) : (restartPasses l s).lines = s.lines := rfl
@[simp] theorem restartPasses_pending (l : List Nat) : (restartPasses l s).pending = s.pending := rfl

/-! ### holdForSwap -/

@[simp] theorem holdForSwap_clock (p : PortId) (h : Holdable) : (holdForSwap p h s).clock = s.clock := rfl
@[simp] theorem holdForSwap_day (p : PortId) (h : Holdable) : (holdForSwap p h s).day = s.day := rfl
@[simp] theorem holdForSwap_store (p : PortId) (h : Holdable) : (holdForSwap p h s).store = s.store := rfl
@[simp] theorem holdForSwap_timetable (p : PortId) (h : Holdable) : (holdForSwap p h s).timetable = { s.timetable with held := s.timetable.held ++ [⟨p, h⟩] } := rfl
@[simp] theorem holdForSwap_bells (p : PortId) (h : Holdable) : (holdForSwap p h s).bells = s.bells := rfl
@[simp] theorem holdForSwap_pupils (p : PortId) (h : Holdable) : (holdForSwap p h s).pupils = s.pupils := rfl
@[simp] theorem holdForSwap_register (p : PortId) (h : Holdable) : (holdForSwap p h s).register = s.register := rfl
@[simp] theorem holdForSwap_arrivals (p : PortId) (h : Holdable) : (holdForSwap p h s).arrivals = s.arrivals := rfl
@[simp] theorem holdForSwap_messages (p : PortId) (h : Holdable) : (holdForSwap p h s).messages = s.messages := rfl
@[simp] theorem holdForSwap_totals (p : PortId) (h : Holdable) : (holdForSwap p h s).totals = s.totals := rfl
@[simp] theorem holdForSwap_roll (p : PortId) (h : Holdable) : (holdForSwap p h s).roll = s.roll := rfl
@[simp] theorem holdForSwap_link (p : PortId) (h : Holdable) : (holdForSwap p h s).link = s.link := rfl
@[simp] theorem holdForSwap_wires (p : PortId) (h : Holdable) : (holdForSwap p h s).wires = s.wires := rfl
@[simp] theorem holdForSwap_lines (p : PortId) (h : Holdable) : (holdForSwap p h s).lines = s.lines := rfl
@[simp] theorem holdForSwap_pending (p : PortId) (h : Holdable) : (holdForSwap p h s).pending = s.pending := rfl

/-! ### holdRequest -/

@[simp] theorem holdRequest_clock (p : PortId) (h : Holdable) : (holdRequest p h s).clock = s.clock := rfl
@[simp] theorem holdRequest_day (p : PortId) (h : Holdable) : (holdRequest p h s).day = { s.day with held := s.day.held ++ [⟨p, h⟩] } := rfl
@[simp] theorem holdRequest_store (p : PortId) (h : Holdable) : (holdRequest p h s).store = s.store := rfl
@[simp] theorem holdRequest_timetable (p : PortId) (h : Holdable) : (holdRequest p h s).timetable = s.timetable := rfl
@[simp] theorem holdRequest_bells (p : PortId) (h : Holdable) : (holdRequest p h s).bells = s.bells := rfl
@[simp] theorem holdRequest_pupils (p : PortId) (h : Holdable) : (holdRequest p h s).pupils = s.pupils := rfl
@[simp] theorem holdRequest_register (p : PortId) (h : Holdable) : (holdRequest p h s).register = s.register := rfl
@[simp] theorem holdRequest_arrivals (p : PortId) (h : Holdable) : (holdRequest p h s).arrivals = s.arrivals := rfl
@[simp] theorem holdRequest_messages (p : PortId) (h : Holdable) : (holdRequest p h s).messages = s.messages := rfl
@[simp] theorem holdRequest_totals (p : PortId) (h : Holdable) : (holdRequest p h s).totals = s.totals := rfl
@[simp] theorem holdRequest_roll (p : PortId) (h : Holdable) : (holdRequest p h s).roll = s.roll := rfl
@[simp] theorem holdRequest_link (p : PortId) (h : Holdable) : (holdRequest p h s).link = s.link := rfl
@[simp] theorem holdRequest_wires (p : PortId) (h : Holdable) : (holdRequest p h s).wires = s.wires := rfl
@[simp] theorem holdRequest_lines (p : PortId) (h : Holdable) : (holdRequest p h s).lines = s.lines := rfl
@[simp] theorem holdRequest_pending (p : PortId) (h : Holdable) : (holdRequest p h s).pending = s.pending := rfl

/-! ### setWait -/

@[simp] theorem setWait_clock (k : Nat) (b : Bool) : (setWait k b s).clock = s.clock := rfl
@[simp] theorem setWait_day (k : Nat) (b : Bool) : (setWait k b s).day = s.day := rfl
@[simp] theorem setWait_store (k : Nat) (b : Bool) : (setWait k b s).store = s.store := rfl
@[simp] theorem setWait_timetable (k : Nat) (b : Bool) : (setWait k b s).timetable = s.timetable := rfl
@[simp] theorem setWait_bells (k : Nat) (b : Bool) : (setWait k b s).bells = s.bells := rfl
@[simp] theorem setWait_pupils (k : Nat) (b : Bool) : (setWait k b s).pupils = s.pupils := rfl
@[simp] theorem setWait_register (k : Nat) (b : Bool) : (setWait k b s).register = s.register := rfl
@[simp] theorem setWait_messages (k : Nat) (b : Bool) : (setWait k b s).messages = s.messages := rfl
@[simp] theorem setWait_totals (k : Nat) (b : Bool) : (setWait k b s).totals = s.totals := rfl
@[simp] theorem setWait_roll (k : Nat) (b : Bool) : (setWait k b s).roll = s.roll := rfl
@[simp] theorem setWait_link (k : Nat) (b : Bool) : (setWait k b s).link = s.link := rfl
@[simp] theorem setWait_wires (k : Nat) (b : Bool) : (setWait k b s).wires = s.wires := rfl
@[simp] theorem setWait_lines (k : Nat) (b : Bool) : (setWait k b s).lines = s.lines := rfl
@[simp] theorem setWait_pending (k : Nat) (b : Bool) : (setWait k b s).pending = s.pending := rfl

/-! ### askConcern -/

@[simp] theorem askConcern_clock (k : Nat) (r : PupilRef) : (askConcern k r s).clock = s.clock := rfl
@[simp] theorem askConcern_day (k : Nat) (r : PupilRef) : (askConcern k r s).day = s.day := rfl
@[simp] theorem askConcern_store (k : Nat) (r : PupilRef) : (askConcern k r s).store = s.store := rfl
@[simp] theorem askConcern_timetable (k : Nat) (r : PupilRef) : (askConcern k r s).timetable = s.timetable := rfl
@[simp] theorem askConcern_bells (k : Nat) (r : PupilRef) : (askConcern k r s).bells = s.bells := rfl
@[simp] theorem askConcern_pupils (k : Nat) (r : PupilRef) : (askConcern k r s).pupils = s.pupils := rfl
@[simp] theorem askConcern_register (k : Nat) (r : PupilRef) : (askConcern k r s).register = s.register := rfl
@[simp] theorem askConcern_arrivals (k : Nat) (r : PupilRef) : (askConcern k r s).arrivals = s.arrivals := rfl
@[simp] theorem askConcern_messages (k : Nat) (r : PupilRef) : (askConcern k r s).messages = s.messages := rfl
@[simp] theorem askConcern_totals (k : Nat) (r : PupilRef) : (askConcern k r s).totals = s.totals := rfl
@[simp] theorem askConcern_roll (k : Nat) (r : PupilRef) : (askConcern k r s).roll = s.roll := rfl
@[simp] theorem askConcern_link (k : Nat) (r : PupilRef) : (askConcern k r s).link = s.link := rfl
@[simp] theorem askConcern_wires (k : Nat) (r : PupilRef) : (askConcern k r s).wires = { s.wires with concern := s.wires.concern ++ [⟨k, r⟩] } := rfl
@[simp] theorem askConcern_lines (k : Nat) (r : PupilRef) : (askConcern k r s).lines = s.lines := rfl
@[simp] theorem askConcern_pending (k : Nat) (r : PupilRef) : (askConcern k r s).pending = s.pending := rfl

/-! ### askLateness -/

@[simp] theorem askLateness_clock (a : LatenessAsk) : (askLateness a s).clock = s.clock := rfl
@[simp] theorem askLateness_day (a : LatenessAsk) : (askLateness a s).day = s.day := rfl
@[simp] theorem askLateness_store (a : LatenessAsk) : (askLateness a s).store = s.store := rfl
@[simp] theorem askLateness_timetable (a : LatenessAsk) : (askLateness a s).timetable = s.timetable := rfl
@[simp] theorem askLateness_bells (a : LatenessAsk) : (askLateness a s).bells = s.bells := rfl
@[simp] theorem askLateness_pupils (a : LatenessAsk) : (askLateness a s).pupils = s.pupils := rfl
@[simp] theorem askLateness_register (a : LatenessAsk) : (askLateness a s).register = s.register := rfl
@[simp] theorem askLateness_arrivals (a : LatenessAsk) : (askLateness a s).arrivals = s.arrivals := rfl
@[simp] theorem askLateness_messages (a : LatenessAsk) : (askLateness a s).messages = s.messages := rfl
@[simp] theorem askLateness_totals (a : LatenessAsk) : (askLateness a s).totals = s.totals := rfl
@[simp] theorem askLateness_roll (a : LatenessAsk) : (askLateness a s).roll = s.roll := rfl
@[simp] theorem askLateness_link (a : LatenessAsk) : (askLateness a s).link = s.link := rfl
@[simp] theorem askLateness_wires (a : LatenessAsk) : (askLateness a s).wires = { s.wires with lateness := s.wires.lateness ++ [a] } := rfl
@[simp] theorem askLateness_lines (a : LatenessAsk) : (askLateness a s).lines = s.lines := rfl
@[simp] theorem askLateness_pending (a : LatenessAsk) : (askLateness a s).pending = s.pending := rfl

end Sys2Proof.Machine
end

