-- ==== Sys2Proof/Laws/Frame.lean ====
section
/-! SUPPORT. What no shared operation changes but the few that say so: the clock, the Plan Store, the
Pupil Table, the lines, the queue and the port roles. One lemma for each operation. -/

set_option linter.unusedTactic false
set_option linter.unreachableTactic false
set_option linter.unusedSimpArgs false

namespace Sys2Proof.Machine

open Sys2Proof

/-- The parts of the state only a few commands change: clock, Plan Store, Pupil Table, lines, queue
and port roles. -/
def State.core (s : State) :
    Clock × PlanStore × PupilTable × Lines × List Instr × (PortId → Role) :=
  (s.clock, s.store, s.pupils, s.lines, s.pending, fun p => (s.port p).role)

/-- Changes to the other parts leave the core. -/
theorem core_congr {s t : State} (h1 : t.clock = s.clock) (h2 : t.store = s.store)
    (h3 : t.pupils = s.pupils) (h4 : t.lines = s.lines) (h5 : t.pending = s.pending)
    (h6 : t.link.ports = s.link.ports) : t.core = s.core := by
  simp [State.core, State.port, h1, h2, h3, h4, h5, h6]

theorem core_clock {s t : State} (h : t.core = s.core) : t.clock = s.clock := congrArg (·.1) h

theorem core_store {s t : State} (h : t.core = s.core) : t.store = s.store := congrArg (·.2.1) h

theorem core_pupils {s t : State} (h : t.core = s.core) : t.pupils = s.pupils :=
  congrArg (·.2.2.1) h

theorem core_lines {s t : State} (h : t.core = s.core) : t.lines = s.lines :=
  congrArg (·.2.2.2.1) h

theorem core_pending {s t : State} (h : t.core = s.core) : t.pending = s.pending :=
  congrArg (·.2.2.2.2.1) h

theorem core_role {s t : State} (h : t.core = s.core) (p : PortId) :
    (t.port p).role = (s.port p).role :=
  congrFun (congrArg (·.2.2.2.2.2) h) p

/-- A port record of the same role leaves the core. -/
@[simp] theorem core_setPort {s : State} {p : PortId} {r : Port} (h : r.role = (s.port p).role) :
    (s.setPort p r).core = s.core := by
  have : (fun q => ((s.setPort p r).port q).role) = fun q => (s.port q).role := by
    funext q
    by_cases e : p = q
    · subst e; simpa [State.setPort, State.port] using h
    · have e' : (p : Nat) ≠ q := fun c => e (Fin.ext c)
      simp [State.setPort, State.port, Vector.getElem_set, e']
  simp only [State.core, this]
  rfl

/-- A fold of an operation that leaves the core. -/
theorem core_foldl {α : Type} {f : State → α → State} (h : ∀ s x, (f s x).core = s.core)
    (l : List α) (s : State) : (l.foldl f s).core = s.core := by
  induction l generalizing s with
  | nil => rfl
  | cons x l ih => simp [ih, h]

section Updates

variable (s : State)

@[simp] theorem core_onBells (f : BellUnit → BellUnit) : (s.onBells f).core = s.core := rfl
@[simp] theorem core_onRegister (f : DayRegister → DayRegister) : (s.onRegister f).core = s.core := rfl
@[simp] theorem core_onMessages (f : MessageUnit → MessageUnit) : (s.onMessages f).core = s.core := rfl
@[simp] theorem core_onRoll (f : SiteRoll → SiteRoll) : (s.onRoll f).core = s.core := rfl
@[simp] theorem core_onDay (f : DayRecord → DayRecord) : (s.onDay f).core = s.core := rfl
@[simp] theorem core_withWires (w : Wires) : ({ s with wires := w } : State).core = s.core := rfl
@[simp] theorem core_withTotals (w : Accumulators) : ({ s with totals := w } : State).core = s.core := rfl
@[simp] theorem core_withTimetable (w : Timetable) : ({ s with timetable := w } : State).core = s.core := rfl
@[simp] theorem core_withArrivals (w : Arrivals) : ({ s with arrivals := w } : State).core = s.core := rfl
@[simp] theorem core_withDay (w : DayRecord) : ({ s with day := w } : State).core = s.core := rfl
@[simp] theorem core_setRecord (k : Nat) (r : RegisterRecord) : (setRecord k r s).core = s.core := rfl
@[simp] theorem core_setHold (k : Nat) (h : Option RouteHold) : (setHold k h s).core = s.core := rfl
@[simp] theorem core_setTotals (k : Nat) (r : Accumulator) : (setTotals k r s).core = s.core := rfl
@[simp] theorem core_tellMessages (m : ToMessages) : (tellMessages m s).core = s.core := rfl
@[simp] theorem core_tellAccumulators (m : ToAccumulators) : (tellAccumulators m s).core = s.core := rfl
@[simp] theorem core_popMessage (l : List ToMessages) : (popMessage l s).core = s.core := rfl
@[simp] theorem core_popAccrual (l : List ToAccumulators) : (popAccrual l s).core = s.core := rfl
@[simp] theorem core_setTable (t : PlanTable) : (setTable t s).core = s.core := rfl
@[simp] theorem core_setCurrent (m : Option Nat) : (setCurrent m s).core = s.core := rfl
@[simp] theorem core_setRecompute (r : Option Recompute) : (setRecompute r s).core = s.core := rfl
@[simp] theorem core_restartPasses (l : List Nat) : (restartPasses l s).core = s.core := rfl
@[simp] theorem core_holdForSwap (p : PortId) (h : Holdable) : (holdForSwap p h s).core = s.core := rfl
@[simp] theorem core_holdRequest (p : PortId) (h : Holdable) : (holdRequest p h s).core = s.core := rfl
@[simp] theorem core_setWait (k : Nat) (b : Bool) : (setWait k b s).core = s.core := rfl
@[simp] theorem core_askConcern (k : Nat) (r : PupilRef) : (askConcern k r s).core = s.core := rfl
@[simp] theorem core_askLateness (a : LatenessAsk) : (askLateness a s).core = s.core := rfl

end Updates

/-! ### Answers and faults -/

section Operations

variable (s : State)

@[simp] theorem core_recordCause (p : PortId) (c : LinkCause) : (recordCause p c s).core = s.core := by
  unfold recordCause
  exact core_setPort rfl

@[simp] theorem core_answer (p : PortId) (st : Status) (a : Bool) (b : ReplyBody) : (answer p st a b s).core = s.core := by
  unfold answer
  dsimp only
  split
  · rfl
  · exact core_setPort rfl
  · exact core_setPort rfl

@[simp] theorem core_refuse (p : PortId) (st : Status) : (refuse p st s).core = s.core := by
  unfold refuse
  repeat' first | split | dsimp only
  all_goals first | rfl | simp

@[simp] theorem core_answerOk (p : PortId) (b : ReplyBody) : (answerOk p b s).core = s.core := by
  unfold answerOk
  repeat' first | split | dsimp only
  all_goals first | rfl | simp

@[simp] theorem core_enterService (p : PortId) (k t : Octet) : (enterService p k t s).core = s.core :=
  core_setPort rfl

@[simp] theorem core_reportFault (r : FaultRecord) : (reportFault r s).core = s.core := by
  unfold reportFault
  repeat' first | split | dsimp only
  all_goals rfl

@[simp] theorem core_resetRecord (k : Nat) (a b : Mark) : (resetRecord k a b s).core = s.core :=
  rfl

/-- The gate of MARK, SIGN-IN and the rest. -/
theorem core_gateOpen {f : State → State} (h : ∀ s, (f s).core = s.core) (p : PortId) (x : Holdable)
    (s : State) : (gateOpen p x f s).core = s.core := by
  unfold gateOpen
  split <;> simp [h]

/-- The gate of NOTICE and CONFIRM-NOTICE. -/
theorem core_gateNotice {f : State → State} (h : ∀ s, (f s).core = s.core) (p : PortId)
    (x : Holdable) (s : State) : (gateNotice p x f s).core = s.core := by
  unfold gateNotice
  split <;> simp [h]

/-- The gate of READ-REGISTER and READ-CHANGES. -/
theorem core_gateRegister {f : State → State} (h : ∀ s, (f s).core = s.core) (p : PortId)
    (x : Holdable) (s : State) : (gateRegister p x f s).core = s.core := by
  unfold gateRegister
  split <;> simp [h]

@[simp] theorem core_timetableBell (b : BellPattern) (z : EightSet) : (timetableBell b z s).core = s.core := by
  unfold timetableBell
  repeat' first | split | dsimp only
  all_goals first | rfl | simp

@[simp] theorem core_takeStart (e : EntryStart) : (takeStart s e).core = s.core := by
  unfold takeStart
  repeat' first | split | dsimp only
  all_goals first | rfl | simp

@[simp] theorem core_beginEntries (w : Bool) (m p : Nat) : (beginEntries w m s p).core = s.core := by
  unfold beginEntries
  dsimp only
  split
  · rfl
  · exact core_foldl (fun s e => core_takeStart s e) _ _

@[simp] theorem core_closeRegister (p : Nat) (x : Session) (m : Nat) : (closeRegister p x m s).core = s.core := by
  unfold closeRegister
  repeat' first | split | dsimp only
  all_goals first | rfl | simp

@[simp] theorem core_raiseClose (m p : Nat) (x : Session) : (raiseClose m p s x).core = s.core := by
  unfold raiseClose
  repeat' first | split | dsimp only
  all_goals first | rfl | simp

@[simp] theorem core_raiseCloses (m p : Nat) : (raiseCloses m s p).core = s.core := by
  unfold raiseCloses
  repeat' first | split | dsimp only
  all_goals first | rfl | simp

@[simp] theorem core_takeEnd (e : PlanEnd) : (takeEnd e s).core = s.core := by simp [takeEnd]

@[simp] theorem core_raiseEnd (m p : Nat) : (raiseEnd m s p).core = s.core := by
  unfold raiseEnd
  repeat' first | split | dsimp only
  all_goals first | rfl | simp

@[simp] theorem core_raiseDue (w : Bool) (m : Nat) (l : List Nat) : (raiseDue w m l s).core = s.core := by
  unfold raiseDue
  rw [core_restartPasses, core_foldl (fun s x => core_raiseEnd s m x), core_foldl (fun s x => core_raiseCloses s m x),
    core_foldl (fun s x => core_beginEntries s w m x)]

@[simp] theorem core_timetableMinute (m : Nat) (d : DayNumber) : (timetableMinute m d s).core = s.core := by
  unfold timetableMinute
  repeat' first | split | dsimp only
  all_goals first | rfl | simp

@[simp] theorem core_swapTable (x : Pass) : (swapTable s x).core = s.core := by
  unfold swapTable
  repeat' first | split | dsimp only
  all_goals first | rfl | simp

@[simp] theorem core_swapTables (r : Recompute) : (swapTables r s).core = s.core := by
  unfold swapTables
  dsimp only
  split <;> simp [core_foldl core_swapTable]

@[simp] theorem core_abandonRecompute : (abandonRecompute s).core = s.core := by
  unfold abandonRecompute
  rw [core_foldl (fun s h => by simp)]
  split <;> simp

@[simp] theorem core_takeShift (p : PortId) (r : ShiftReq) : (takeShift p r s).core = s.core := by
  unfold takeShift
  repeat' first | split | dsimp only
  all_goals first | rfl | simp

@[simp] theorem core_serveShift (p : PortId) (r : ShiftReq) : (serveShift p r s).core = s.core := by
  unfold serveShift
  split
  · exact core_gateOpen (fun s => by split <;> simp) _ _ _
  · simp

@[simp] theorem core_takeReadTimetable (p : PortId) (a b : Nat) : (takeReadTimetable p a b s).core = s.core := by
  unfold takeReadTimetable
  repeat' first | split | dsimp only
  all_goals first | rfl | simp

@[simp] theorem core_serveReadTimetable (p : PortId) (a b : Nat) : (serveReadTimetable p a b s).core = s.core :=
  core_gateOpen (fun s => by split <;> simp) _ _ _

@[simp] theorem core_serveWriteQuiet (p : PortId) (n : Nat) (r : QuietReq) : (serveWriteQuiet p n r s).core = s.core := by
  unfold serveWriteQuiet
  repeat' first | split | dsimp only
  all_goals first | rfl | simp

@[simp] theorem core_serveRing (p : PortId) (z : EightSet) (b : Option BellPattern) : (serveRing p z b s).core = s.core := by
  unfold serveRing
  repeat' first | split | dsimp only
  all_goals first | rfl | simp

@[simp] theorem core_setPresence (k : Nat) (x : Presence) : (setPresence k x s).core = s.core := by
  unfold setPresence
  repeat' first | split | dsimp only
  all_goals first | rfl | simp

@[simp] theorem core_markGap (k : Nat) (x : Session) : (markGap k x s).core = s.core := by
  unfold markGap
  repeat' first | split | dsimp only
  all_goals first | rfl | simp

@[simp] theorem core_appendAmendment (a : Amendment) : (appendAmendment a s).core = s.core := by
  unfold appendAmendment
  repeat' first | split | dsimp only
  all_goals first | rfl | simp

@[simp] theorem core_enterUnexplained (p : Proposal) (r : PupilRef) (m : Mark) : (enterUnexplained p r m s).core = s.core := by
  unfold enterUnexplained
  repeat' first | split | dsimp only
  all_goals first | rfl | simp

@[simp] theorem core_leaveUnexplainedMark (m : SessionMarks) (p : Proposal) (r : PupilRef) (k : Mark) : (leaveUnexplainedMark m p r k s).core = s.core := by
  unfold leaveUnexplainedMark
  repeat' first | split | dsimp only
  all_goals first | rfl | simp

@[simp] theorem core_applyChange (m : SessionMarks) (p : Proposal) (r : PupilRef) (k : Mark) : (applyChange m p r k s).core = s.core := by
  unfold applyChange
  repeat' first | split | dsimp only
  all_goals first | rfl | simp

@[simp] theorem core_applyRepeat (m : SessionMarks) (p : Proposal) (k : Mark) : (applyRepeat m p k s).core = s.core := by
  unfold applyRepeat
  repeat' first | split | dsimp only
  all_goals first | rfl | simp

@[simp] theorem core_propose (p : Proposal) : ((propose p s).1).core = s.core := by
  unfold propose
  repeat' first | split | dsimp only
  all_goals first | rfl | (split <;> simp) | simp

@[simp] theorem core_takeSignIn (r : SignInReport) : ((takeSignIn r s).1).core = s.core := by
  unfold takeSignIn
  repeat' first | split | dsimp only
  all_goals simp

@[simp] theorem core_proposeEach (f : Session → Proposal) (l : List Session) : ((proposeEach f l s).1).core = s.core := by
  induction l generalizing s with
  | nil => rfl
  | cons x l ih => simp [proposeEach, ih]

@[simp] theorem core_takeSignOut (k : Nat) (t : Stamp) (b : Bool) (l : List Session) : ((takeSignOut k t b l s).1).core = s.core := by
  unfold takeSignOut
  repeat' first | split | dsimp only
  all_goals first | rfl | simp

@[simp] theorem core_takeMark (p : PortId) (r : MarkReq) : (takeMark p r s).core = s.core := by
  unfold takeMark
  repeat' first | split | dsimp only
  all_goals first | rfl | simp

@[simp] theorem core_serveMark (p : PortId) (r : MarkReq) : (serveMark p r s).core = s.core :=
  core_gateOpen (fun s => core_takeMark s p r) _ _ _

@[simp] theorem core_serveGroupMark (p : PortId) (r : GroupMarkReq) : (serveGroupMark p r s).core = s.core := by
  unfold serveGroupMark
  split
  · simp
  · exact core_gateOpen (fun s => by split <;> simp) _ _ _

@[simp] theorem core_readRegisterList (p : PortId) (n : Nat) (x : Option (Session × List Mark)) : (readRegisterList p n x s).core = s.core := by
  unfold readRegisterList
  repeat' first | split | dsimp only
  all_goals first | rfl | simp

@[simp] theorem core_takeReadRegister (p : PortId) (r : RegisterSelector) : (takeReadRegister p r s).core = s.core := by
  unfold takeReadRegister
  repeat' first | split | dsimp only
  all_goals first | rfl | simp

@[simp] theorem core_serveReadRegister (p : PortId) (r : RegisterSelector) : (serveReadRegister p r s).core = s.core :=
  core_gateRegister (fun s => core_takeReadRegister s p r) _ _ _

@[simp] theorem core_takeReadChanges (p : PortId) : (takeReadChanges p s).core = s.core := by
  unfold takeReadChanges
  repeat' first | split | dsimp only
  all_goals first | rfl | simp

@[simp] theorem core_serveReadChanges (p : PortId) : (serveReadChanges p s).core = s.core :=
  core_gateRegister (fun s => core_takeReadChanges s p) _ _ _

@[simp] theorem core_takeReport : (takeReport s).core = s.core := by
  unfold takeReport
  repeat' first | split | dsimp only
  all_goals first | rfl | simp

@[simp] theorem core_reportAlert (k : Nat) (a : AlertState) : (reportAlert k a s).core = s.core := by
  unfold reportAlert
  repeat' first | split | dsimp only
  all_goals first | rfl | simp

@[simp] theorem core_addCall (k : Nat) (r : PupilRef) (c : CallReason) (n : Option HeldNotice) : (addCall k r c n s).core = s.core := by
  unfold addCall
  repeat' first | split | dsimp only
  all_goals first | rfl | simp

@[simp] theorem core_addCallFor (k : Nat) (c : CallReason) : (addCallFor k c s).core = s.core := by
  unfold addCallFor
  repeat' first | split | dsimp only
  all_goals first | rfl | simp

@[simp] theorem core_dropCall (k : Nat) : (dropCall k s).core = s.core := by
  unfold dropCall
  repeat' first | split | dsimp only
  all_goals first | rfl | simp

@[simp] theorem core_setOutbound (e : Outbound) : (setOutbound e s).core = s.core := by
  unfold setOutbound
  repeat' first | split | dsimp only
  all_goals first | rfl | simp

@[simp] theorem core_dropOutbound (k : Nat) : (dropOutbound k s).core = s.core := by
  unfold dropOutbound
  repeat' first | split | dsimp only
  all_goals first | rfl | simp

@[simp] theorem core_queueFull (k : Nat) : (queueFull k s).core = s.core := by
  unfold queueFull
  repeat' first | split | dsimp only
  all_goals first | rfl | simp

@[simp] theorem core_joinOutbound (e : Outbound) : (joinOutbound e s).core = s.core := by
  unfold joinOutbound
  repeat' first | split | dsimp only
  all_goals first | rfl | simp

@[simp] theorem core_takeRaise (k : Nat) (r : PupilRef) (x : Session) : (takeRaise k r x s).core = s.core := by
  unfold takeRaise
  repeat' first | split | dsimp only
  all_goals first | rfl | simp

@[simp] theorem core_takeLeave (k : Nat) (r : PupilRef) (x : Session) (m : Mark) : (takeLeave k r x m s).core = s.core := by
  unfold takeLeave
  repeat' first | split | dsimp only
  all_goals first | rfl | simp

@[simp] theorem core_takeToMessages (m : ToMessages) : (takeToMessages s m).core = s.core := by
  unfold takeToMessages
  repeat' first | split | dsimp only
  all_goals first | rfl | simp

@[simp] theorem core_drainMessages : (drainMessages s).core = s.core := by
  unfold drainMessages
  rw [core_foldl core_takeToMessages]
  rfl

@[simp] theorem core_dropStanding (k : Nat) : (dropStanding k s).core = s.core := by
  unfold dropStanding
  repeat' first | split | dsimp only
  all_goals first | rfl | simp

@[simp] theorem core_storeStanding (e : Standing) : (storeStanding e s).core = s.core := by
  unfold storeStanding
  repeat' first | split | dsimp only
  all_goals first | rfl | simp

@[simp] theorem core_applyNotice (k : Nat) (n : HeldNotice) : ((applyNotice k n s).1).core = s.core := by
  unfold applyNotice
  repeat' first | split | dsimp only
  all_goals first | rfl | simp

@[simp] theorem core_takeVerified (p : PortId) (k : Nat) (n : HeldNotice) : (takeVerified p k n s).core = s.core := by
  unfold takeVerified
  repeat' first | split | dsimp only
  all_goals first | rfl | simp

@[simp] theorem core_takeUnverified (p : PortId) (k : Nat) (r : PupilRef) (n : HeldNotice) : (takeUnverified p k r n s).core = s.core := by
  unfold takeUnverified
  repeat' first | split | dsimp only
  all_goals first | rfl | simp

@[simp] theorem core_takeNotice (p : PortId) (r : NoticeReq) : (takeNotice p r s).core = s.core := by
  unfold takeNotice
  repeat' first | split | dsimp only
  all_goals first | rfl | simp

@[simp] theorem core_serveNotice (p : PortId) (r : NoticeReq) : (serveNotice p r s).core = s.core :=
  core_gateNotice (fun s => core_takeNotice s p r) _ _ _

@[simp] theorem core_settleHeldNotice (k : Nat) : (settleHeldNotice k s).core = s.core := by
  unfold settleHeldNotice
  repeat' first | split | dsimp only
  all_goals first | rfl | simp

@[simp] theorem core_takeConfirmNotice (p : PortId) (k : Nat) (b : Bool) : (takeConfirmNotice p k b s).core = s.core := by
  unfold takeConfirmNotice
  repeat' first | split | dsimp only
  all_goals first | rfl | simp

@[simp] theorem core_serveConfirmNotice (p : PortId) (k : Nat) (b : Bool) : (serveConfirmNotice p k b s).core = s.core :=
  core_gateNotice (fun s => core_takeConfirmNotice s p k b) _ _ _

@[simp] theorem core_visitStanding (k : Nat) : (visitStanding k s).core = s.core := by
  unfold visitStanding
  repeat' first | split | dsimp only
  all_goals first | rfl | simp

@[simp] theorem core_serveReadStanding (p : PortId) (n : Nat) : (serveReadStanding p n s).core = s.core := by
  unfold serveReadStanding
  repeat' first | split | dsimp only
  all_goals first | rfl | simp

@[simp] theorem core_serveCancelStanding (p : PortId) (r : PupilRef) : (serveCancelStanding p r s).core = s.core := by
  unfold serveCancelStanding
  repeat' first | split | dsimp only
  all_goals first | rfl | simp

@[simp] theorem core_exhaust (k : Nat) (c : CallReason) : (exhaust k c s).core = s.core := by
  unfold exhaust
  repeat' first | split | dsimp only
  all_goals first | rfl | simp

@[simp] theorem core_handOver (p : PortId) (e : Outbound) (r : PupilRef) (c : Contact) : (handOver p e r c s).core = s.core := by
  unfold handOver
  repeat' first | split | dsimp only
  all_goals first | rfl | simp

@[simp] theorem core_serveQueue (p : PortId) (n : Nat) : (serveQueue p n s).core = s.core := by
  induction n generalizing s with
  | zero => simp [serveQueue]
  | succ n ih =>
    unfold serveQueue
    repeat' first | split | dsimp only
    all_goals simp [ih]

@[simp] theorem core_serveTakeMessage (p : PortId) : (serveTakeMessage p s).core = s.core := by
  unfold serveTakeMessage
  repeat' first | split | dsimp only
  all_goals first | rfl | simp

@[simp] theorem core_leaveOrFollowOn (e : Outbound) (a : AlertState) : (leaveOrFollowOn e a s).core = s.core := by
  unfold leaveOrFollowOn
  repeat' first | split | dsimp only
  all_goals first | rfl | simp

@[simp] theorem core_becomeCorrection (e : Outbound) : (becomeCorrection e s).core = s.core := by
  unfold becomeCorrection
  repeat' first | split | dsimp only
  all_goals first | rfl | simp

@[simp] theorem core_returnToPosition (e : Outbound) (n : Nat) : (returnToPosition e n s).core = s.core := by
  unfold returnToPosition
  repeat' first | split | dsimp only
  all_goals first | rfl | simp

@[simp] theorem core_resultDelivered (e : Outbound) : (resultDelivered e s).core = s.core := by
  unfold resultDelivered
  repeat' first | split | dsimp only
  all_goals first | rfl | simp

@[simp] theorem core_resultFailed (e : Outbound) : (resultFailed e s).core = s.core := by
  unfold resultFailed
  repeat' first | split | dsimp only
  all_goals first | rfl | simp

@[simp] theorem core_applyResult (e : Outbound) (h : Handed) (b : Bool) : (applyResult e h b s).core = s.core := by
  unfold applyResult
  repeat' first | split | dsimp only
  all_goals first | rfl | simp

@[simp] theorem core_serveMessageResult (p : PortId) (n : Nat) (o : Option Delivery) : (serveMessageResult p n o s).core = s.core := by
  unfold serveMessageResult
  repeat' first | split | dsimp only
  all_goals first | rfl | simp

@[simp] theorem core_timeOut (e : Outbound) (h : Handed) : (timeOut e h s).core = s.core := by
  unfold timeOut
  repeat' first | split | dsimp only
  all_goals first | rfl | simp

@[simp] theorem core_expireHandover (n : Nat) : (expireHandover s n).core = s.core := by
  unfold expireHandover
  repeat' first | split | dsimp only
  all_goals first | rfl | simp

@[simp] theorem core_expireHandovers : (expireHandovers s).core = s.core := by
  unfold expireHandovers
  exact core_foldl core_expireHandover _ _

@[simp] theorem core_serveReadCalls (p : PortId) (n : Nat) : (serveReadCalls p n s).core = s.core := by
  unfold serveReadCalls
  repeat' first | split | dsimp only
  all_goals first | rfl | simp

@[simp] theorem core_serveClearCall (p : PortId) (n : Nat) : (serveClearCall p n s).core = s.core := by
  unfold serveClearCall
  repeat' first | split | dsimp only
  all_goals first | rfl | simp

@[simp] theorem core_reportUnsent (e : Outbound) : (reportUnsent s e).core = s.core := by
  unfold reportUnsent
  repeat' first | split | dsimp only
  all_goals first | rfl | simp

@[simp] theorem core_closeMessages : (closeMessages s).core = s.core := by
  unfold closeMessages
  simp [core_foldl core_reportUnsent]

@[simp] theorem core_openMessages : (openMessages s).core = s.core := by
  unfold openMessages
  repeat' first | split | dsimp only
  all_goals first | rfl | simp

@[simp] theorem core_clearMessages (k : Nat) : (clearMessages k s).core = s.core := by
  unfold clearMessages
  repeat' first | split | dsimp only
  all_goals first | rfl | simp

@[simp] theorem core_takeLateness (a : LatenessAsk) : (takeLateness a s).core = s.core := by
  unfold takeLateness
  repeat' first | split | dsimp only
  all_goals first | rfl | simp

@[simp] theorem core_takeOpenMinutes (k : Nat) (r : PupilRef) (m : Nat) : (takeOpenMinutes k r m s).core = s.core := by
  unfold takeOpenMinutes
  repeat' first | split | dsimp only
  all_goals first | rfl | simp

@[simp] theorem core_takeFold (k : Nat) (r : PupilRef) (d : DayNumber) (a b : Mark) : (takeFold k r d a b s).core = s.core := by
  unfold takeFold
  repeat' first | split | dsimp only
  all_goals simp

@[simp] theorem core_answerTotals (p : PortId) (k : Nat) : (answerTotals p k s).core = s.core := by
  unfold answerTotals
  repeat' first | split | dsimp only
  all_goals first | rfl | simp

@[simp] theorem core_answerTotalsList (p : PortId) (k : Nat) (n : Option Nat) : (answerTotalsList p k n s).core = s.core := by
  unfold answerTotalsList
  repeat' first | split | dsimp only
  all_goals first | rfl | simp

@[simp] theorem core_refuseTotals (p : PortId) (x : Status) : (refuseTotals p x s).core = s.core := by
  simp [refuseTotals]

@[simp] theorem core_serveReadTotals (p : PortId) (r : TotalsSelector) : (serveReadTotals p r s).core = s.core := by
  unfold serveReadTotals
  repeat' first | split | dsimp only
  all_goals first | rfl | simp

@[simp] theorem core_serveTermReset (p : PortId) : (serveTermReset p s).core = s.core := by
  unfold serveTermReset
  repeat' first | split | dsimp only
  all_goals first | rfl | simp

@[simp] theorem core_buildVisit (k : Nat) : (buildVisit k s).core = s.core := by
  unfold buildVisit
  repeat' first | split | dsimp only
  all_goals first | rfl | simp

@[simp] theorem core_takePresence (p : PresencePass) : (takePresence p s).core = s.core := by
  unfold takePresence
  repeat' first | split | dsimp only
  all_goals first | rfl | simp

@[simp] theorem core_serveReadRoll (p : PortId) (n : Nat) : (serveReadRoll p n s).core = s.core := by
  unfold serveReadRoll
  repeat' first | split | dsimp only
  all_goals first | rfl | simp

@[simp] theorem core_serveAccount (p : PortId) (r : AccountReq) : (serveAccount p r s).core = s.core := by
  unfold serveAccount
  repeat' first | split | dsimp only
  all_goals first | rfl | simp

@[simp] theorem core_serveRollClose (p : PortId) : (serveRollClose p s).core = s.core := by
  unfold serveRollClose
  repeat' first | split | dsimp only
  all_goals first | rfl | simp

@[simp] theorem core_plainSignIn (p : PortId) (k : Nat) (r : Pupil) (c : ArrivalClass) (st : Status) (t : Stamp) (b : Bool) : (plainSignIn p k r c st t b s).core = s.core := by
  unfold plainSignIn
  repeat' first | split | dsimp only
  all_goals first | rfl | simp

@[simp] theorem core_proposedSignIn (p : PortId) (k : Nat) (r : Pupil) (x : Session) (c : ArrivalClass) (l : Option LateFigures) (e : Option Excuse) (a : Bool) (t : Stamp) (b : Bool) : (proposedSignIn p k r x c l e a t b s).core = s.core := by
  unfold proposedSignIn
  repeat' first | split | dsimp only
  all_goals first | rfl | simp

@[simp] theorem core_takeArrival (p : PortId) (k : Nat) (r : Pupil) (b : Bool) : (takeArrival p k r b s).core = s.core := by
  unfold takeArrival
  repeat' first | split | dsimp only
  all_goals first | rfl | simp

@[simp] theorem core_reportRetry (p : PortId) (c : Nat) (b : Bool) : (reportRetry p c b s).core = s.core := by
  unfold reportRetry
  repeat' first | split | dsimp only
  all_goals first | rfl | simp

@[simp] theorem core_refuseCard (p : PortId) (c : Nat) (m : CardMatch) : (refuseCard p c m s).core = s.core := by
  unfold refuseCard
  dsimp only
  split <;> simp

@[simp] theorem core_takeCard (p : PortId) (c : Nat) (b : Bool) : (takeCard p c b s).core = s.core := by
  unfold takeCard
  repeat' first | split | dsimp only
  all_goals first | rfl | simp

@[simp] theorem core_takeSignInRequest (p : PortId) (r : SignInReq) : (takeSignInRequest p r s).core = s.core := by
  unfold takeSignInRequest
  repeat' first | split | dsimp only
  all_goals first | rfl | simp

@[simp] theorem core_serveSignIn (p : PortId) (r : SignInReq) : (serveSignIn p r s).core = s.core :=
  core_gateOpen (fun s => core_takeSignInRequest s p r) _ _ _

@[simp] theorem core_takeSignOutRequest (p : PortId) (r : PupilRef) (x : SignOutReason) (b : Bool) : (takeSignOutRequest p r x b s).core = s.core := by
  unfold takeSignOutRequest
  repeat' first | split | dsimp only
  all_goals first | rfl | simp

@[simp] theorem core_serveSignOut (p : PortId) (r : SignOutReq) : (serveSignOut p r s).core = s.core := by
  unfold serveSignOut
  split
  · exact core_gateOpen (fun s => core_takeSignOutRequest s _ _ _ _) _ _ _
  · simp

@[simp] theorem core_takeRouteHold (p : PortId) (r : RouteHoldReq) : (takeRouteHold p r s).core = s.core := by
  unfold takeRouteHold
  repeat' first | split | dsimp only
  all_goals first | rfl | simp

@[simp] theorem core_serveRouteHold (p : PortId) (r : RouteHoldReq) : (serveRouteHold p r s).core = s.core := by
  unfold serveRouteHold
  split
  · exact core_gateOpen (fun s => core_takeRouteHold s _ _) _ _ _
  · simp

@[simp] theorem core_expireHold (n : Nat) : (expireHold s n).core = s.core := by
  unfold expireHold
  repeat' first | split | dsimp only
  all_goals first | rfl | simp

@[simp] theorem core_expireHolds : (expireHolds s).core = s.core := by
  unfold expireHolds
  exact core_foldl core_expireHold _ _

@[simp] theorem core_answerPlan (p : PortId) (a b : Nat) : (answerPlan p a b s).core = s.core := by
  unfold answerPlan
  repeat' first | split | dsimp only
  all_goals first | rfl | simp

@[simp] theorem core_answerCohorts (p : PortId) (a : Nat) : (answerCohorts p a s).core = s.core := by
  unfold answerCohorts
  repeat' first | split | dsimp only
  all_goals first | rfl | simp

@[simp] theorem core_serveReadPlan (p : PortId) (r : PlanSelector) (a : Nat) : (serveReadPlan p r a s).core = s.core := by
  unfold serveReadPlan
  repeat' first | split | dsimp only
  all_goals first | rfl | simp

@[simp] theorem core_answerCard (p : PortId) (c : Nat) : (answerCard p c s).core = s.core := by
  unfold answerCard
  repeat' first | split | dsimp only
  all_goals first | rfl | simp

@[simp] theorem core_serveReadPupil (p : PortId) (r : PupilSelector) : (serveReadPupil p r s).core = s.core := by
  unfold serveReadPupil
  repeat' first | split | dsimp only
  all_goals first | rfl | simp

@[simp] theorem core_resetForToday (k : Nat) : (resetForToday k s).core = s.core := by
  unfold resetForToday
  repeat' first | split | dsimp only
  all_goals first | rfl | simp

@[simp] theorem core_advanceCursor : (advanceCursor s).core = s.core := by
  unfold advanceCursor
  repeat' first | split | dsimp only
  all_goals first | rfl | simp

@[simp] theorem core_sessionSweep (p : Nat) (x : Session) (k : Nat) : (sessionSweep p x k s).core = s.core := by
  unfold sessionSweep
  repeat' first | split | dsimp only
  all_goals first | rfl | simp

@[simp] theorem core_routeSweepSession (p k : Nat) (x : Session) : (routeSweepSession p k s x).core = s.core := by
  unfold routeSweepSession
  repeat' first | split | dsimp only
  all_goals first | rfl | simp

@[simp] theorem core_routeSweep (r : RouteSet) (k : Nat) : (routeSweep r k s).core = s.core := by
  unfold routeSweep
  repeat' first | split | dsimp only
  all_goals first | rfl | exact core_foldl (fun s x => core_routeSweepSession s _ _ x) _ _

@[simp] theorem core_groupSession (m : Mark) (k : Nat) (x : Session) : (groupSession m k s x).core = s.core := by
  unfold groupSession
  repeat' first | split | dsimp only
  all_goals first | rfl | simp

@[simp] theorem core_groupWalk (c : GroupContents) (k : Nat) : (groupWalk c k s).core = s.core := by
  unfold groupWalk
  repeat' first | split | dsimp only
  all_goals first | rfl | exact core_foldl (fun s x => core_groupSession s _ _ x) _ _

@[simp] theorem core_openVisit (k : Nat) : (openVisit k s).core = s.core := by
  unfold openVisit
  repeat' first | split | dsimp only
  all_goals first | rfl | simp

@[simp] theorem core_finalMark (k : Nat) (t : Stamp) (x : Session) : (finalMark k t s x).core = s.core := by
  unfold finalMark
  repeat' first | split | dsimp only
  all_goals first | rfl | simp

@[simp] theorem core_accrueOpen (k : Nat) (r : PupilRef) (t : Stamp) (x : Session) : (accrueOpen k r t s x).core = s.core := by
  unfold accrueOpen
  repeat' first | split | dsimp only
  all_goals first | rfl | simp

@[simp] theorem core_closeVisit (k : Nat) : (closeVisit k s).core = s.core := by
  unfold closeVisit
  split
  · rfl
  · simp only [core_tellAccumulators]
    rw [core_foldl (fun s x => core_accrueOpen s _ _ _ x), core_foldl (fun s x => core_finalMark s _ _ x)]

@[simp] theorem core_takeOpening : (takeOpening s).core = s.core := by
  unfold takeOpening
  repeat' first | split | dsimp only
  all_goals first | rfl | simp

@[simp] theorem core_endHolds : (endHolds s).core = s.core := by
  unfold endHolds
  repeat' first | split | dsimp only
  all_goals first | rfl | simp

@[simp] theorem core_takeClosing : (takeClosing s).core = s.core := by
  unfold takeClosing
  repeat' first | split | dsimp only
  all_goals first | rfl | simp

@[simp] theorem core_autoOpen (m : Nat) : (autoOpen m s).core = s.core := by
  unfold autoOpen
  repeat' first | split | dsimp only
  all_goals first | rfl | simp

@[simp] theorem core_autoClose (m : Nat) : (autoClose m s).core = s.core := by
  unfold autoClose
  repeat' first | split | dsimp only
  all_goals first | rfl | simp

@[simp] theorem core_minuteEvent (t : Stamp) : (minuteEvent t s).core = s.core := by
  unfold minuteEvent
  repeat' first | split | dsimp only
  all_goals first | rfl | simp

@[simp] theorem core_minuteIfWhole (t : Stamp) : (minuteIfWhole t s).core = s.core := by
  unfold minuteIfWhole
  repeat' first | split | dsimp only
  all_goals first | rfl | simp

@[simp] theorem core_settleExpiries : (settleExpiries s).core = s.core := by
  unfold settleExpiries
  repeat' first | split | dsimp only
  all_goals first | rfl | simp

@[simp] theorem core_endWaits : (endWaits s).core = s.core := by
  unfold endWaits
  repeat' first | split | dsimp only
  all_goals first | rfl | simp

@[simp] theorem core_secondTaken : (secondTaken s).core = s.core := by
  unfold secondTaken
  repeat' first | split | dsimp only
  all_goals first | rfl | simp

@[simp] theorem core_serveDayOpen (p : PortId) : (serveDayOpen p s).core = s.core := by
  unfold serveDayOpen
  repeat' first | split | dsimp only
  all_goals first | rfl | simp

@[simp] theorem core_serveDayClose (p : PortId) : (serveDayClose p s).core = s.core := by
  unfold serveDayClose
  repeat' first | split | dsimp only
  all_goals first | rfl | simp

@[simp] theorem core_serveHeld (h : Held) : (serveHeld h s).core = s.core := by
  unfold serveHeld
  repeat' first | split | dsimp only
  all_goals first | rfl | simp

@[simp] theorem core_takeOne (w : Waiting) : (takeOne w s).core = s.core := by
  unfold takeOne
  repeat' first | split | dsimp only
  all_goals first | rfl | simp

@[simp] theorem core_takeWaiting (n : Nat) (o : List Nat) (l : List Waiting) : (takeWaiting n o l s).core = s.core := by
  induction n generalizing o l s with
  | zero => rfl
  | succ n ih =>
    unfold takeWaiting
    repeat' first | split | dsimp only
    all_goals simp [ih]

@[simp] theorem core_releaseHeld (o : List Nat) : (releaseHeld o s).core = s.core := by
  unfold releaseHeld
  repeat' first | split | dsimp only
  all_goals first | rfl | simp

@[simp] theorem core_openTimetable : (openTimetable s).core = s.core := by
  unfold openTimetable
  repeat' first | split | dsimp only
  all_goals first | rfl | simp

@[simp] theorem core_answerOpened : (answerOpened s).core = s.core := by
  unfold answerOpened
  repeat' first | split | dsimp only
  all_goals first | rfl | simp

@[simp] theorem core_completeOpen (o : List Nat) : (completeOpen o s).core = s.core := by
  unfold completeOpen
  repeat' first | split | dsimp only
  all_goals first | rfl | simp

@[simp] theorem core_discardTables : (discardTables s).core = s.core := by
  unfold discardTables
  repeat' first | split | dsimp only
  all_goals first | rfl | simp

@[simp] theorem core_countTermDay : (countTermDay s).core = s.core := by
  unfold countTermDay
  repeat' first | split | dsimp only
  all_goals first | rfl | simp

@[simp] theorem core_answerClosed (d : DayNumber) (t : Stamp) : (answerClosed d t s).core = s.core := by
  unfold answerClosed
  repeat' first | split | dsimp only
  all_goals first | rfl | simp

@[simp] theorem core_takeHeldForSwap (l : List Held) : (takeHeldForSwap l s).core = s.core := by
  induction l generalizing s with
  | nil => rfl
  | cons h l ih =>
    unfold takeHeldForSwap
    split
    · rfl
    · rw [ih]; simp

@[simp] theorem core_takeSwap (r : Recompute) : (takeSwap r s).core = s.core := by
  unfold takeSwap
  repeat' first | split | dsimp only
  all_goals first | rfl | simp

@[simp] theorem core_takeAlarm (b : Bool) : (takeAlarm b s).core = s.core := by
  unfold takeAlarm
  repeat' first | split | dsimp only
  all_goals first | rfl | simp

@[simp] theorem core_setReceive (p : PortId) (r : ReceiveState) : (setReceive p r s).core = s.core :=
  core_setPort rfl

@[simp] theorem core_overlapFrame (p : PortId) : (overlapFrame p s).core = s.core := by
  unfold overlapFrame
  repeat' first | split | dsimp only
  all_goals first | rfl | simp

@[simp] theorem core_takeUnknownKind (p : PortId) (k t : Octet) : (takeUnknownKind p k t s).core = s.core := by
  unfold takeUnknownKind
  repeat' first | split | dsimp only
  all_goals first | rfl | simp

@[simp] theorem core_completeReply (p : PortId) : (completeReply p s).core = s.core := by
  unfold completeReply
  split
  · rfl
  · dsimp only
    split
    · exact (core_congr rfl rfl rfl rfl rfl rfl).trans
        (core_setPort (p := p) (r := { s.port p with reply := none, service := .idle }) rfl)
    · exact core_setPort rfl

@[simp] theorem core_serveSetReplyLimit (p : PortId) (n : Nat) : (serveSetReplyLimit p n s).core = s.core := by
  unfold serveSetReplyLimit
  repeat' first | split | dsimp only
  all_goals first | rfl | simp

@[simp] theorem core_serveLinkStatus (p : PortId) : (serveLinkStatus p s).core = s.core := by
  unfold serveLinkStatus
  repeat' first | split | dsimp only
  all_goals first | rfl | simp

@[simp] theorem core_restartEffect : (restartEffect s).core = s.core := by
  simp only [State.core, restartEffect, restartWith, Prod.mk.injEq, true_and]
  funext p
  simp [State.port, LinkInterface.reset, mapNth, Port.reset]

/-- A port that comes back keeps its role. -/
theorem role_up (r : Port) : r.up.role = r.role := by
  unfold Port.up
  split <;> rfl

/-- A port that goes down keeps its role. -/
theorem core_takeDown {s : State} {f : State → State} (h : ∀ s, (f s).core = s.core) (t : PortId) (c : Option Nat) (x : PortState) :
    (takeDown t x c f s).core = s.core := by
  unfold takeDown
  have e : (s.setPort t ((s.port t).down x c)).core = s.core := core_setPort rfl
  dsimp only
  split
  · rw [core_restartEffect, e]
  · rw [h, e]

@[simp] theorem core_servePortPark (p : PortId) (n : Nat) : (servePortPark p n s).core = s.core := by
  unfold servePortPark
  repeat' first | split | dsimp only
  all_goals first | (simp; done) | exact core_takeDown (fun s => by simp) _ _ _

@[simp] theorem core_servePortRelease (p : PortId) (n : Nat) : (servePortRelease p n s).core = s.core := by
  unfold servePortRelease
  split
  · simp
  · rw [core_answerOk]
    exact core_setPort (role_up _)

@[simp] theorem core_servePortCycle (p : PortId) (n : Nat) : (servePortCycle p n s).core = s.core := by
  unfold servePortCycle
  repeat' first | split | dsimp only
  all_goals first | (simp; done) | exact core_takeDown (fun s => by simp) _ _ _

@[simp] theorem core_serveReadFaults (p : PortId) : (serveReadFaults p s).core = s.core := by
  unfold serveReadFaults
  repeat' first | split | dsimp only
  all_goals first | rfl | simp

@[simp] theorem core_serveClearFaults (p : PortId) : (serveClearFaults p s).core = s.core := by
  unfold serveClearFaults
  simp only [core_answerOk]
  rfl

end Operations

end Sys2Proof.Machine
end

