-- ==== Sys2Proof/Laws/Replies.lean ====
section
/-! SUPPORT. What a port record reads as after it is replaced, and what a request does on a port that
can take it: it runs its owner, and an answer leaves the state it is given but for that port. -/

namespace Sys2Proof.Machine

open Sys2Proof

/-- A port reads as the record it was given. -/
@[simp] theorem port_setPort_self (s : State) (p : PortId) (r : Port) : (s.setPort p r).port p = r := by
  simp [State.setPort, State.port]

/-- The other ports read as before. -/
theorem port_setPort_ne (s : State) {p q : PortId} (r : Port) (h : q ≠ p) :
    (s.setPort p r).port q = s.port q := by
  have e : (p : Nat) ≠ q := fun c => h (Fin.ext c.symm)
  simp [State.setPort, State.port, e]

/-- The later of two records written to one port stands. -/
@[simp] theorem setPort_setPort (s : State) (p : PortId) (r q : Port) :
    (s.setPort p r).setPort p q = s.setPort p q := by
  simp [State.setPort]

/-- A port given its own record changes nothing. -/
@[simp] theorem setPort_port (s : State) (p : PortId) : s.setPort p (s.port p) = s := by
  simp [State.setPort, State.port]

/-- A kind allowed for a role is allowed for a role that is not NONE. -/
theorem allows_ne_none {k : Kind} {r : Role} (h : k.allows r = true) : r ≠ .none := by
  rintro rfl
  cases k <;> simp [Kind.allows, Kind.roles] at h

/-- A port that is ready is listening. -/
theorem listening_of_ready {s : State} {f : Frame} {k : Kind} (h : Ready s f k) :
    listening s f.port = true := by
  obtain ⟨h1, h2, -, h4, -⟩ := h
  simp [listening, h1, h2, allows_ne_none h4]

/-- A frame on a ready port goes to the owner of its request (R163). -/
theorem takeFrame_of_ready {s : State} {f : Frame} {k : Kind} (h : Ready s f k)
    (owner : State → State) : takeFrame f k owner s = owner (s.serving f k) := by
  have h' := listening_of_ready h
  obtain ⟨-, -, h3, h4, h5⟩ := h
  simp only [takeFrame, h', if_true, h3]
  simp [enterService, State.serving, Machine.serving, h4, h5]

/-- A request on a ready port is the owner's effect (R163). -/
theorem request_of_ready {s : State} {f : Frame} {k : Kind} (h : Ready s f k)
    (owner : State → State) : request f k owner s = .next (owner (s.serving f k)) := by
  rw [request, takeFrame_of_ready h]

/-- An answer on a port that serves its frame leaves the state it is given but for that port
(R164). -/
@[simp] theorem answer_serving (s : State) (f : Frame) (k : Kind) (status : Status)
    (adjusted : Bool) (body : ReplyBody) :
    answer f.port status adjusted body (s.serving f k) = s.replied f k status adjusted body := by
  simp [answer, State.serving, State.replied, replying, serving]

@[simp] theorem refuse_serving (s : State) (f : Frame) (k : Kind) (status : Status) :
    refuse f.port status (s.serving f k) = s.replied f k status false .empty :=
  answer_serving s f k status false .empty

@[simp] theorem answerOk_serving (s : State) (f : Frame) (k : Kind) (body : ReplyBody) :
    answerOk f.port body (s.serving f k) = s.replied f k .ok false body :=
  answer_serving s f k .ok false body

/-- An event is taken while RESET_N is high. -/
theorem event_awake {s : State} (h : s.lines.resetN = true) (effect : State → State) :
    event effect s = .next (effect s) := by
  simp [event, h]

/-- No event is raised while RESET_N is low (R17). -/
theorem event_asleep {s : State} (h : s.lines.resetN = false) (effect : State → State) :
    event effect s = .next s := by
  simp [event, h]

/-- No frame is taken while RESET_N is low (R17). -/
theorem request_asleep {s : State} (h : s.lines.resetN = false) (f : Frame) (k : Kind)
    (owner : State → State) : request f k owner s = .next s := by
  simp [request, takeFrame, listening, h]

end Sys2Proof.Machine
end

