-- ==== Sys2Proof/Laws/Commands.lean ====
section
/-! SUPPORT. The commands that leave the clock, the Plan Store, the Pupil Table, the lines, the queue
and the port roles: all but those that say otherwise. -/

set_option linter.unusedTactic false
set_option linter.unreachableTactic false
set_option linter.unusedSimpArgs false

namespace Sys2Proof.Machine

open Sys2Proof

/-- A command that goes on and leaves the core. -/
def LeavesCore (o : Host.Outcome State Fault Refusal) (s : State) : Prop :=
  ∃ t, o = .next t ∧ t.core = s.core

/-- A frame whose owner leaves the core leaves it. -/
theorem leavesCore_request {owner : State → State} (h : ∀ s, (owner s).core = s.core) (f : Frame)
    (k : Kind) (s : State) : LeavesCore (request f k owner s) s := by
  refine ⟨_, rfl, ?_⟩
  unfold takeFrame
  repeat' first | split | dsimp only
  all_goals first | rfl | simp [h]

/-- An event whose effect leaves the core leaves it. -/
theorem leavesCore_event {effect : State → State} {s : State} (h : (effect s).core = s.core) :
    LeavesCore (event effect s) s := by
  refine ⟨_, rfl, ?_⟩
  split
  · exact h
  · rfl

/-- A visit of the register walker whose effect leaves the core leaves it. -/
theorem core_visit {effect : Walk → Nat → State → Option State} {s : State}
    (h : ∀ w k s t, effect w k s = some t → t.core = s.core) : (visit effect s).core = s.core := by
  unfold visit
  split
  · rfl
  · split
    · split
      · rename_i heq
        rw [core_advanceCursor, h _ _ _ _ heq]
      · rfl
    · rfl

theorem leavesCore_bellCountExpiry (zone : Zone) (s : State) :
    LeavesCore (execBellCountExpiry zone s) s := by
  refine leavesCore_event ?_
  repeat' first | split | dsimp only
  all_goals first | rfl | simp

theorem leavesCore_pushLimitExpiry (s : State) :
    LeavesCore (execPushLimitExpiry s) s := by
  refine leavesCore_event ?_
  repeat' first | split | dsimp only
  all_goals first | rfl | simp

theorem leavesCore_readTime (frame : Frame) (s : State) :
    LeavesCore (execReadTime frame s) s :=
  leavesCore_request (fun s => by simp) _ _ _

theorem leavesCore_dayOpen (frame : Frame) (s : State) :
    LeavesCore (execDayOpen frame s) s :=
  leavesCore_request (fun s => by simp) _ _ _

theorem leavesCore_dayClose (frame : Frame) (s : State) :
    LeavesCore (execDayClose frame s) s :=
  leavesCore_request (fun s => by simp) _ _ _

theorem leavesCore_restart (frame : Frame) (s : State) :
    LeavesCore (execRestart frame s) s :=
  leavesCore_request (fun s => by simp) _ _ _

theorem leavesCore_restartEffect (s : State) :
    LeavesCore (execRestartEffect s) s := by
  refine leavesCore_event ?_
  repeat' first | split | dsimp only
  all_goals first | rfl | simp

theorem leavesCore_openWalkVisit (s : State) :
    LeavesCore (execOpenWalkVisit s) s := by
  refine leavesCore_event (core_visit ?_)
  intro w k s t h
  revert h
  repeat' split
  all_goals
    intro h
    cases h
  all_goals simp

theorem leavesCore_openWalkComplete (order : List Nat) (s : State) :
    LeavesCore (execOpenWalkComplete order s) s := by
  refine leavesCore_event ?_
  repeat' first | split | dsimp only
  all_goals first | rfl | simp

theorem leavesCore_closeWalkVisit (s : State) :
    LeavesCore (execCloseWalkVisit s) s := by
  refine leavesCore_event (core_visit ?_)
  intro w k s t h
  revert h
  repeat' split
  all_goals
    intro h
    cases h
  all_goals simp

theorem leavesCore_readPlan (frame : Frame) (selector : PlanSelector) (start : Nat) (s : State) :
    LeavesCore (execReadPlan frame selector start s) s :=
  leavesCore_request (fun s => by simp) _ _ _

theorem leavesCore_shift (frame : Frame) (req : ShiftReq) (s : State) :
    LeavesCore (execShift frame req s) s :=
  leavesCore_request (fun s => by simp) _ _ _

theorem leavesCore_recomputePassComplete (plan : Nat) (s : State) :
    LeavesCore (execRecomputePassComplete plan s) s := by
  refine leavesCore_event ?_
  repeat' first | split | dsimp only
  all_goals first | rfl | simp

theorem leavesCore_swap (s : State) :
    LeavesCore (execSwap s) s := by
  refine leavesCore_event ?_
  repeat' first | split | dsimp only
  all_goals first | rfl | simp

theorem leavesCore_readTimetable (frame : Frame) (plan start : Nat) (s : State) :
    LeavesCore (execReadTimetable frame plan start s) s :=
  leavesCore_request (fun s => by simp) _ _ _

theorem leavesCore_writeQuiet (frame : Frame) (number : Nat) (window : QuietReq) (s : State) :
    LeavesCore (execWriteQuiet frame number window s) s :=
  leavesCore_request (fun s => by simp) _ _ _

theorem leavesCore_ring (frame : Frame) (zones : EightSet) (pattern : Option BellPattern) (s : State) :
    LeavesCore (execRing frame zones pattern s) s :=
  leavesCore_request (fun s => by simp) _ _ _

theorem leavesCore_readPupil (frame : Frame) (selector : PupilSelector) (s : State) :
    LeavesCore (execReadPupil frame selector s) s :=
  leavesCore_request (fun s => by simp) _ _ _

theorem leavesCore_mark (frame : Frame) (req : MarkReq) (s : State) :
    LeavesCore (execMark frame req s) s :=
  leavesCore_request (fun s => by simp) _ _ _

theorem leavesCore_groupMark (frame : Frame) (req : GroupMarkReq) (s : State) :
    LeavesCore (execGroupMark frame req s) s :=
  leavesCore_request (fun s => by simp) _ _ _

theorem leavesCore_sessionSweepVisit (s : State) :
    LeavesCore (execSessionSweepVisit s) s := by
  refine leavesCore_event (core_visit ?_)
  intro w k s t h
  revert h
  repeat' split
  all_goals
    intro h
    cases h
  all_goals simp

theorem leavesCore_routeSweepVisit (s : State) :
    LeavesCore (execRouteSweepVisit s) s := by
  refine leavesCore_event (core_visit ?_)
  intro w k s t h
  revert h
  repeat' split
  all_goals
    intro h
    cases h
  all_goals simp

theorem leavesCore_groupWalkVisit (s : State) :
    LeavesCore (execGroupWalkVisit s) s := by
  refine leavesCore_event (core_visit ?_)
  intro w k s t h
  revert h
  repeat' split
  all_goals
    intro h
    cases h
  all_goals simp

theorem leavesCore_walkComplete (s : State) :
    LeavesCore (execWalkComplete s) s := by
  refine leavesCore_event ?_
  repeat' first | split | dsimp only
  all_goals first | rfl | simp

theorem leavesCore_readRegister (frame : Frame) (selector : RegisterSelector) (s : State) :
    LeavesCore (execReadRegister frame selector s) s :=
  leavesCore_request (fun s => by simp) _ _ _

theorem leavesCore_readChanges (frame : Frame) (s : State) :
    LeavesCore (execReadChanges frame s) s :=
  leavesCore_request (fun s => by simp) _ _ _

theorem leavesCore_signIn (frame : Frame) (req : SignInReq) (s : State) :
    LeavesCore (execSignIn frame req s) s :=
  leavesCore_request (fun s => by simp) _ _ _

theorem leavesCore_signOut (frame : Frame) (req : SignOutReq) (s : State) :
    LeavesCore (execSignOut frame req s) s :=
  leavesCore_request (fun s => by simp) _ _ _

theorem leavesCore_routeHold (frame : Frame) (req : RouteHoldReq) (s : State) :
    LeavesCore (execRouteHold frame req s) s :=
  leavesCore_request (fun s => by simp) _ _ _

theorem leavesCore_routeHoldExpiry (route : Nat) (s : State) :
    LeavesCore (execRouteHoldExpiry route s) s := by
  refine leavesCore_event ?_
  repeat' first | split | dsimp only
  all_goals first | rfl | simp

theorem leavesCore_notice (frame : Frame) (req : NoticeReq) (s : State) :
    LeavesCore (execNotice frame req s) s :=
  leavesCore_request (fun s => by simp) _ _ _

theorem leavesCore_raiseAlert (s : State) :
    LeavesCore (execRaiseAlert s) s := by
  refine leavesCore_event ?_
  repeat' first | split | dsimp only
  all_goals first | rfl | simp

theorem leavesCore_leaveUnexplained (s : State) :
    LeavesCore (execLeaveUnexplained s) s := by
  refine leavesCore_event ?_
  repeat' first | split | dsimp only
  all_goals first | rfl | simp

theorem leavesCore_alertStateReport (s : State) :
    LeavesCore (execAlertStateReport s) s := by
  refine leavesCore_event ?_
  repeat' first | split | dsimp only
  all_goals first | rfl | simp

theorem leavesCore_takeMessage (frame : Frame) (s : State) :
    LeavesCore (execTakeMessage frame s) s :=
  leavesCore_request (fun s => by simp) _ _ _

theorem leavesCore_messageResult (frame : Frame) (tag : Nat) (outcome : Option Delivery) (s : State) :
    LeavesCore (execMessageResult frame tag outcome s) s :=
  leavesCore_request (fun s => by simp) _ _ _

theorem leavesCore_handoverTimeout (tag : Nat) (s : State) :
    LeavesCore (execHandoverTimeout tag s) s := by
  refine leavesCore_event ?_
  repeat' first | split | dsimp only
  all_goals first | rfl | simp

theorem leavesCore_readStanding (frame : Frame) (start : Nat) (s : State) :
    LeavesCore (execReadStanding frame start s) s :=
  leavesCore_request (fun s => by simp) _ _ _

theorem leavesCore_cancelStanding (frame : Frame) (ref : PupilRef) (s : State) :
    LeavesCore (execCancelStanding frame ref s) s :=
  leavesCore_request (fun s => by simp) _ _ _

theorem leavesCore_callListAdd (caller : Caller) (s : State) :
    LeavesCore (execCallListAdd caller s) s := by
  refine leavesCore_event ?_
  repeat' first | split | dsimp only
  all_goals first | rfl | simp

theorem leavesCore_readCalls (frame : Frame) (start : Nat) (s : State) :
    LeavesCore (execReadCalls frame start s) s :=
  leavesCore_request (fun s => by simp) _ _ _

theorem leavesCore_clearCall (frame : Frame) (slot : Nat) (s : State) :
    LeavesCore (execClearCall frame slot s) s :=
  leavesCore_request (fun s => by simp) _ _ _

theorem leavesCore_confirmNotice (frame : Frame) (slot : Nat) (conflictFirst : Bool) (s : State) :
    LeavesCore (execConfirmNotice frame slot conflictFirst s) s :=
  leavesCore_request (fun s => by simp) _ _ _

theorem leavesCore_latenessAccrual (s : State) :
    LeavesCore (execLatenessAccrual s) s := by
  refine leavesCore_event ?_
  repeat' first | split | dsimp only
  all_goals first | rfl | simp

theorem leavesCore_openMinutesAccrual (s : State) :
    LeavesCore (execOpenMinutesAccrual s) s := by
  refine leavesCore_event ?_
  repeat' first | split | dsimp only
  all_goals first | rfl | simp

theorem leavesCore_fold (s : State) :
    LeavesCore (execFold s) s := by
  refine leavesCore_event ?_
  repeat' first | split | dsimp only
  all_goals first | rfl | simp

theorem leavesCore_readTotals (frame : Frame) (selector : TotalsSelector) (s : State) :
    LeavesCore (execReadTotals frame selector s) s :=
  leavesCore_request (fun s => by simp) _ _ _

theorem leavesCore_termReset (frame : Frame) (s : State) :
    LeavesCore (execTermReset frame s) s :=
  leavesCore_request (fun s => by simp) _ _ _

theorem leavesCore_rollBuildVisit (s : State) :
    LeavesCore (execRollBuildVisit s) s := by
  refine leavesCore_event ?_
  repeat' first | split | dsimp only
  all_goals first | rfl | simp

theorem leavesCore_rollBuildComplete (s : State) :
    LeavesCore (execRollBuildComplete s) s := by
  refine leavesCore_event ?_
  repeat' first | split | dsimp only
  all_goals first | rfl | simp

theorem leavesCore_presenceChange (s : State) :
    LeavesCore (execPresenceChange s) s := by
  refine leavesCore_event ?_
  repeat' first | split | dsimp only
  all_goals first | rfl | simp

theorem leavesCore_readRoll (frame : Frame) (start : Nat) (s : State) :
    LeavesCore (execReadRoll frame start s) s :=
  leavesCore_request (fun s => by simp) _ _ _

theorem leavesCore_account (frame : Frame) (req : AccountReq) (s : State) :
    LeavesCore (execAccount frame req s) s :=
  leavesCore_request (fun s => by simp) _ _ _

theorem leavesCore_rollClose (frame : Frame) (s : State) :
    LeavesCore (execRollClose frame s) s :=
  leavesCore_request (fun s => by simp) _ _ _

theorem leavesCore_frameHeaderFault (port : PortId) (header : Header) (s : State) :
    LeavesCore (execFrameHeaderFault port header s) s := by
  refine leavesCore_event ?_
  repeat' first | split | dsimp only
  all_goals first | rfl | simp

theorem leavesCore_frameCheckFault (port : PortId) (octets : List Octet) (crc : BitVec 16) (s : State) :
    LeavesCore (execFrameCheckFault port octets crc s) s := by
  refine leavesCore_event ?_
  repeat' first | split | dsimp only
  all_goals first | rfl | simp

theorem leavesCore_receiveGapTimeout (port : PortId) (s : State) :
    LeavesCore (execReceiveGapTimeout port s) s := by
  refine leavesCore_event ?_
  repeat' first | split | dsimp only
  all_goals first | rfl | simp

theorem leavesCore_frameOverlap (port : PortId) (s : State) :
    LeavesCore (execFrameOverlap port s) s := by
  refine leavesCore_event ?_
  repeat' first | split | dsimp only
  all_goals first | rfl | simp

theorem leavesCore_unknownKindFrame (port : PortId) (kind tag : Octet) (s : State) :
    LeavesCore (execUnknownKindFrame port kind tag s) s := by
  refine leavesCore_event ?_
  repeat' first | split | dsimp only
  all_goals first | rfl | simp

theorem leavesCore_replyComplete (port : PortId) (s : State) :
    LeavesCore (execReplyComplete port s) s := by
  refine leavesCore_event ?_
  repeat' first | split | dsimp only
  all_goals first | rfl | simp

theorem leavesCore_setReplyLimit (frame : Frame) (octets : Nat) (s : State) :
    LeavesCore (execSetReplyLimit frame octets s) s :=
  leavesCore_request (fun s => by simp) _ _ _

theorem leavesCore_linkStatus (frame : Frame) (s : State) :
    LeavesCore (execLinkStatus frame s) s :=
  leavesCore_request (fun s => by simp) _ _ _

theorem leavesCore_portPark (frame : Frame) (target : Nat) (s : State) :
    LeavesCore (execPortPark frame target s) s :=
  leavesCore_request (fun s => by simp) _ _ _

theorem leavesCore_portRelease (frame : Frame) (target : Nat) (s : State) :
    LeavesCore (execPortRelease frame target s) s :=
  leavesCore_request (fun s => by simp) _ _ _

theorem leavesCore_portCycle (frame : Frame) (target : Nat) (s : State) :
    LeavesCore (execPortCycle frame target s) s :=
  leavesCore_request (fun s => by simp) _ _ _

theorem leavesCore_portCycleEnd (port : PortId) (s : State) :
    LeavesCore (execPortCycleEnd port s) s := by
  refine leavesCore_event ?_
  split
  · exact core_setPort (role_up _)
  · rfl
  · rfl

theorem leavesCore_readFaults (frame : Frame) (s : State) :
    LeavesCore (execReadFaults frame s) s :=
  leavesCore_request (fun s => by simp) _ _ _

theorem leavesCore_clearFaults (frame : Frame) (s : State) :
    LeavesCore (execClearFaults frame s) s :=
  leavesCore_request (fun s => by simp) _ _ _

theorem leavesCore_syncOctet (port : PortId) (s : State) :
    LeavesCore (execSyncOctet port s) s := by
  refine leavesCore_event ?_
  repeat' first | split | dsimp only
  all_goals first | rfl | simp

end Sys2Proof.Machine
end

