-- ==== Sys2Proof/Laws/Lists.lean ====
section
/-! SUPPORT. What the shared list operations can do, said once: the items a list reply keeps (R165), and
the first of some things under an order (R117, R131). -/

namespace Sys2Proof.Machine

open Sys2Proof

variable {α : Type}

/-! ### Items that fit -/

/-- The octets of the items of a list reply. -/
def itemsOctets (fixed : Nat) (items : List α) : Nat :=
  (items.map fun x => (Config.itemOctets fixed x : Nat)).sum

@[simp] theorem itemsOctets_nil (fixed : Nat) : itemsOctets fixed ([] : List α) = 0 := rfl

@[simp] theorem itemsOctets_cons (fixed : Nat) (x : α) (l : List α) :
    itemsOctets fixed (x :: l) = Config.itemOctets fixed x + itemsOctets fixed l := by
  simp [itemsOctets]

theorem listOctets_eq (fixed : Nat) (l : List α) : listOctets fixed l = fixed + itemsOctets fixed l :=
  rfl

theorem listOctets_append_one (fixed : Nat) (l : List α) (x : α) :
    listOctets fixed (l ++ [x]) = listOctets fixed l + Config.itemOctets fixed x := by
  simp [listOctets, Nat.add_assoc]

/-- The fixed fields and any one item stay within 240 octets (R165). -/
theorem itemOctets_bound {fixed : Nat} (h : fixed ≤ 240) (x : α) :
    fixed + Config.itemOctets fixed x ≤ 240 := by
  have := (Config.itemOctets fixed x).isLt
  simp only [Config.payloadOctets] at this ⊢
  omega

/-- What `fitFrom` keeps: a prefix that stays within the limit, whose next item would pass it. -/
theorem fitFrom_spec (limit fixed used : Nat) (l : List α) :
    ∃ left, l = fitFrom limit fixed used l ++ left
      ∧ (used ≤ limit → used + itemsOctets fixed (fitFrom limit fixed used l) ≤ limit)
      ∧ (limit < used → fitFrom limit fixed used l = [])
      ∧ ∀ x rest, left = x :: rest →
          limit < used + itemsOctets fixed (fitFrom limit fixed used l)
            + Config.itemOctets fixed x := by
  induction l generalizing used with
  | nil => exact ⟨[], by simp [fitFrom]⟩
  | cons x l ih =>
    unfold fitFrom
    split
    · rename_i h
      obtain ⟨left, h1, h2, -, h4⟩ := ih (used + Config.itemOctets fixed x)
      refine ⟨left, by rw [List.cons_append, ← h1], ?_, by omega, ?_⟩
      · intro _
        have := h2 h
        simp only [itemsOctets_cons]
        omega
      · intro y rest e
        have := h4 y rest e
        simp only [itemsOctets_cons]
        omega
    · refine ⟨x :: l, by simp, by simp, by simp, ?_⟩
      rintro y rest e
      obtain ⟨rfl, -⟩ := List.cons.inj e
      simp only [itemsOctets_nil]
      omega

/-- What a list reply keeps of its items (R165). -/
theorem fit_fits {fixed : Nat} (hf : fixed ≤ 240) (limit : Nat) (l : List α) :
    FitsReply limit fixed l (fit limit fixed l) := by
  cases l with
  | nil => exact ⟨[], rfl, by simp, by simp [fit], by simp [fit, listOctets, hf], by simp⟩
  | cons x l =>
    obtain ⟨left, h1, h2, h3, h4⟩ := fitFrom_spec limit fixed (fixed + Config.itemOctets fixed x) l
    have hb := itemOctets_bound hf x
    have ho : listOctets fixed (fit limit fixed (x :: l))
        = fixed + Config.itemOctets fixed x
          + itemsOctets fixed (fitFrom limit fixed (fixed + Config.itemOctets fixed x) l) := by
      simp only [fit, listOctets_eq, itemsOctets_cons]
      omega
    refine ⟨left, by simp only [fit, List.cons_append, ← h1], by simp [fit], ?_, ?_, ?_⟩
    · by_cases c : fixed + Config.itemOctets fixed x ≤ limit
      · exact .inl (by rw [ho]; exact h2 c)
      · exact .inr (by simp [fit, h3 (by omega)])
    · intro hl
      rw [ho]
      by_cases c : fixed + Config.itemOctets fixed x ≤ limit
      · have := h2 c
        omega
      · rw [h3 (by omega), itemsOctets_nil]
        omega
    · intro y rest e
      rw [listOctets_append_one, ho]
      exact h4 y rest e

/-! ### The first of some things under an order -/

/-- Of some things, one is first, and it is one of them. -/
theorem firstBy_mem (b : α → α → Bool) {l : List α} (h : l ≠ []) :
    ∃ y, firstBy b l = some y ∧ y ∈ l := by
  induction l with
  | nil => exact absurd rfl h
  | cons x l ih =>
    simp only [firstBy]
    by_cases e : l = []
    · subst e
      simp [firstBy]
    · obtain ⟨y, hy, hm⟩ := ih e
      rw [hy]
      dsimp only
      split <;> simp [hm]

/-- The thing that goes before every other, and that no other goes before, is the first. -/
theorem firstBy_of_before (b : α → α → Bool) {l : List α} {i : α} (hi : i ∈ l)
    (h : ∀ x ∈ l, x = i ∨ (b i x = true ∧ b x i = false)) : firstBy b l = some i := by
  induction l with
  | nil => simp at hi
  | cons x l ih =>
    simp only [firstBy]
    by_cases hm : i ∈ l
    · rw [ih hm fun y hy => h y (by simp [hy])]
      dsimp only
      obtain rfl | ⟨h1, -⟩ := h x (by simp)
      · split <;> rfl
      · simp [h1]
    · obtain rfl : i = x := by simpa [hm] using hi
      by_cases e : l = []
      · subst e
        rfl
      · obtain ⟨y, hy, hy2⟩ := firstBy_mem b e
        rw [hy]
        dsimp only
        obtain rfl | ⟨-, h2⟩ := h y (by simp [hy2])
        · split <;> rfl
        · simp [h2]

/-! ### The walker takes an item -/

/-- An IDLE walker whose alarm flag is clear takes the waiting item that goes first (R117). -/
theorem takeItem_takes {r : DayRegister} {i : WalkItem} (h : r.walker.hand = none)
    (a : r.walker.alarm = false) (f : firstBy WalkItem.before r.walker.waiting = some i) :
    TakesItem r (takeItem r) i := by
  unfold takeItem
  rw [if_pos (by simp [h, a]), f]
  refine ⟨?_, ?_, ?_⟩ <;> rintro x rfl <;> rfl

/-- Any other walker, and one with an empty queue, takes nothing (R117). -/
theorem takeItem_of_not {r : DayRegister}
    (h : r.walker.hand ≠ none ∨ r.walker.alarm = true ∨ r.walker.waiting = []) :
    takeItem r = r := by
  unfold takeItem
  split
  · rename_i g
    rcases h with h | h | h
    · simp [h] at g
    · simp [h] at g
    · rw [h]; rfl
  · rfl

end Sys2Proof.Machine
end

