-- ==== Sys2Proof/Laws/Messages.lean ====
section
/-! SUPPORT. What the shared operations of the Message Unit can do: a fault report, a report of an alert
state, an addition to the call list, and a place at the back of a class. -/

namespace Sys2Proof.Machine

open Sys2Proof

/-- A fault report changes the link alone (R169). -/
theorem reportFault_eq (r : FaultRecord) (s : State) :
    reportFault r s = { s with link := (reportFault r s).link } := by
  unfold reportFault
  split
  · rfl
  · split <;> rfl

/-- An addition for a pupil the slot holds changes the call list and the link alone, as R140 gives. -/
theorem addCallFor_spec (slot : Nat) (ref : PupilRef) (reason : CallReason) (s : State)
    (h : refAt s slot = some ref) :
    ∃ v, addCallFor slot reason s = v
      ∧ v = { s with messages := { s.messages with calls := v.messages.calls }, link := v.link }
      ∧ CallJoined s v slot reason := by
  refine ⟨_, rfl, ?_⟩
  unfold addCallFor
  simp only [h]
  unfold addCall
  simp only [holdsRef, h, beq_self_eq_true, if_true]
  cases hc : callOf s slot with
  | some e => exact ⟨rfl, by simp [CallJoined, hc, State.onMessages, CallEntry.add]⟩
  | none =>
    simp only []
    by_cases hl : s.messages.calls.length < Config.callPlaces
    · simp only [hl, if_true]
      have room : s.messages.calls.length < 96 := hl
      exact ⟨rfl, by simp [CallJoined, hc, State.onMessages]; omega⟩
    · simp only [hl, if_false]
      have full : ¬ s.messages.calls.length < 96 := hl
      rw [reportFault_eq]
      exact ⟨rfl, by simp [CallJoined, hc]; omega⟩

/-- A report for a pupil the slot holds changes the reports in flight alone, and not them where the
alert state already was the value reported (R132). -/
theorem reportAlert_spec (slot : Nat) (ref : PupilRef) (alert : AlertState) (s : State)
    (h : refAt s slot = some ref) :
    reportAlert slot alert s
      = { s with wires := { s.wires with
          reports := if alertNow s slot = alert then s.wires.reports
            else s.wires.reports ++ [⟨slot, ref, alert⟩] } } := by
  unfold reportAlert
  simp only [h]
  split <;> rfl

/-- A report made in a state with the pupils, the reports and the register of another is that state's
report too (R132). -/
theorem alertReported_of_reportAlert (slot : Nat) (ref : PupilRef) (alert : AlertState)
    (s u : State) (h : refAt s slot = some ref) (pupils : s.pupils = u.pupils)
    (reports : s.wires.reports = u.wires.reports) (register : s.register = u.register) :
    AlertReported u (reportAlert slot alert s) slot alert := by
  rw [reportAlert_spec slot ref alert s h]
  refine ⟨ref, by simpa [refAt, pupilAt, pupils] using h, ?_⟩
  simp [alertNow, reports, register, recordAt]

/-- The next place within a queued time is past every place taken in it (R131). -/
theorem place_lt_nextPlace (s : State) (t : Stamp) :
    ∀ d ∈ s.messages.outbound, d.queuedTime = t → d.place < nextPlace s t := by
  have key : ∀ (l : List Outbound) (n : Nat),
      n ≤ l.foldl (fun n e => max n (e.place + 1)) n
        ∧ ∀ d ∈ l, d.place < l.foldl (fun n e => max n (e.place + 1)) n := by
    intro l
    induction l with
    | nil => simp
    | cons a l ih =>
      intro n
      have step := ih (max n (a.place + 1))
      refine ⟨by simp only [List.foldl_cons]; omega, ?_⟩
      intro d hd
      simp only [List.foldl_cons]
      rcases List.mem_cons.1 hd with h | h
      · subst h; omega
      · exact step.2 d h
  intro d hd ht
  exact (key _ 0).2 d (by simp [hd, ht])

/-- The entry found for a slot is that slot's (R131). -/
theorem slot_of_outboundOf {s : State} {slot : Nat} {e : Outbound}
    (h : outboundOf s slot = some e) : e.slot = slot := by
  simpa using List.find?_some h

/-- Which sessions of a set are still UNEXPLAINED (R131). -/
theorem has_stillUnexplained (s : State) (slot : Nat) (f : SessionSet) (x : Session) :
    (stillUnexplained s slot f).has x = true
      ↔ f.has x = true ∧ markOf s slot x = .unexplained := by
  cases x <;> simp [stillUnexplained, SessionSet.has]

end Sys2Proof.Machine
end

