-- ==== Sys2Proof/Laws/Tables.lean ====
section
/-! SUPPORT. Slot tables: a read after a write of the same slot gives what was written, the other
slots read as before, and a write keeps the canonical form. -/

namespace Sys2Proof.Machine

open Sys2Proof

variable {α : Type} [DecidableEq α] {d : α}

/-- The parts of the canonical form. -/
theorem tableWf_cons {b k : Nat} {v : α} {rest : SlotTable α} :
    tableWf d b ((k, v) :: rest) = true ↔
      k < b ∧ v ≠ d ∧ (∀ e ∈ rest, k < e.1) ∧ tableWf d b rest = true := by
  simp [tableWf, and_assoc]

omit [DecidableEq α] in
/-- A slot before every listed one reads as an unlisted slot. -/
theorem readSlot_of_lt {t : SlotTable α} {k : Nat} (h : ∀ e ∈ t, k < e.1) : readSlot d t k = d := by
  induction t with
  | nil => rfl
  | cons e t ih =>
    obtain ⟨j, v⟩ := e
    have hj : k < j := h (j, v) (by simp)
    simp [readSlot, show k ≠ j by omega, ih fun e he => h e (by simp [he])]

/-- A listed slot reads as its entry. -/
theorem readSlot_of_mem {t : SlotTable α} {b k : Nat} {v : α} (h : tableWf d b t = true)
    (m : (k, v) ∈ t) : readSlot d t k = v := by
  induction t with
  | nil => simp at m
  | cons e t ih =>
    obtain ⟨j, w⟩ := e
    obtain ⟨-, -, h3, h4⟩ := tableWf_cons.mp h
    rcases List.mem_cons.mp m with e | m'
    · cases e; simp [readSlot]
    · have : j < k := h3 _ m'
      simp [readSlot, show k ≠ j by omega, ih h4 m']

omit [DecidableEq α] in
/-- A slot that does not read as an unlisted one is listed. -/
theorem mem_of_readSlot {t : SlotTable α} {k : Nat} (h : readSlot d t k ≠ d) :
    (k, readSlot d t k) ∈ t := by
  induction t with
  | nil => simp [readSlot] at h
  | cons e t ih =>
    obtain ⟨j, w⟩ := e
    by_cases e : k = j
    · subst e; simp [readSlot]
    · simp only [readSlot, e, if_false] at h ⊢
      exact List.mem_cons_of_mem _ (ih h)

/-- A read after a write of the same slot gives what was written. -/
theorem readSlot_writeSlot_same {t : SlotTable α} {b k : Nat} (x : α) (h : tableWf d b t = true) :
    readSlot d (writeSlot d t k x) k = x := by
  induction t with
  | nil => by_cases e : x = d <;> simp [writeSlot, readSlot, e]
  | cons e t ih =>
    obtain ⟨j, v⟩ := e
    obtain ⟨-, -, h3, h4⟩ := tableWf_cons.mp h
    simp only [writeSlot]
    split
    · split
      · rename_i hk e
        subst e
        exact readSlot_of_lt fun e he => by
          rcases List.mem_cons.mp he with rfl | he
          · exact hk
          · exact lt_trans hk (h3 e he)
      · simp [readSlot]
    · split
      · rename_i e
        subst e
        split
        · rename_i e
          subst e
          exact readSlot_of_lt h3
        · simp [readSlot]
      · rename_i e
        simp [readSlot, e, ih h4]

/-- The other slots read as before. -/
theorem readSlot_writeSlot_ne {t : SlotTable α} {k l : Nat} (x : α) (h : l ≠ k) :
    readSlot d (writeSlot d t k x) l = readSlot d t l := by
  induction t with
  | nil => by_cases e : x = d <;> simp [writeSlot, readSlot, e, h]
  | cons e t ih =>
    obtain ⟨j, v⟩ := e
    simp only [writeSlot]
    split
    · split
      · rfl
      · simp [readSlot, h]
    · split
      · rename_i e
        subst e
        split <;> simp [readSlot, h]
      · by_cases e : l = j <;> simp [readSlot, e, ih]

/-- An entry of the table after a write is the one written or was there before. -/
theorem mem_writeSlot {t : SlotTable α} {k l : Nat} {x v : α} (h : (l, v) ∈ writeSlot d t k x) :
    (l = k ∧ v = x) ∨ (l, v) ∈ t := by
  induction t with
  | nil =>
    by_cases e : x = d <;> simp [writeSlot, e] at h
    exact Or.inl h
  | cons e t ih =>
    obtain ⟨j, w⟩ := e
    simp only [writeSlot] at h
    split at h
    · split at h
      · exact Or.inr h
      · rcases List.mem_cons.mp h with e | h
        · cases e; exact Or.inl ⟨rfl, rfl⟩
        · exact Or.inr h
    · split at h
      · split at h
        · exact Or.inr (List.mem_cons_of_mem _ h)
        · rcases List.mem_cons.mp h with e | h
          · cases e; exact Or.inl ⟨rfl, rfl⟩
          · exact Or.inr (List.mem_cons_of_mem _ h)
      · rcases List.mem_cons.mp h with e | h
        · exact Or.inr (by simp [e])
        · rcases ih h with h | h
          · exact Or.inl h
          · exact Or.inr (List.mem_cons_of_mem _ h)

/-- A write to a slot of the table keeps the canonical form. -/
theorem tableWf_writeSlot {t : SlotTable α} {b k : Nat} (x : α) (h : tableWf d b t = true)
    (hk : k < b) : tableWf d b (writeSlot d t k x) = true := by
  induction t with
  | nil => by_cases e : x = d <;> simp [writeSlot, tableWf, e, hk]
  | cons e t ih =>
    obtain ⟨j, v⟩ := e
    obtain ⟨h1, h2, h3, h4⟩ := tableWf_cons.mp h
    simp only [writeSlot]
    split
    · rename_i hkj
      split
      · exact h
      · rename_i e
        refine tableWf_cons.mpr ⟨hk, e, fun e he => ?_, h⟩
        rcases List.mem_cons.mp he with rfl | he
        · exact hkj
        · exact lt_trans hkj (h3 e he)
    · split
      · rename_i e
        subst e
        split
        · exact h4
        · rename_i e
          exact tableWf_cons.mpr ⟨hk, e, h3, h4⟩
      · refine tableWf_cons.mpr ⟨h1, h2, fun e he => ?_, ih h4⟩
        obtain ⟨l, w⟩ := e
        rcases mem_writeSlot he with ⟨rfl, -⟩ | he
        · change j < l; omega
        · exact h3 _ he

end Sys2Proof.Machine
end

