-- ==== Sys2Proof/Laws/Propose.lean ====
section
/-! SUPPORT. What the Day Register's decision of a proposal can do, said once: which parts of the state
it leaves, what it leaves of every other record, and what an applied change writes (R80 to R85, R92,
R93). -/

namespace Sys2Proof.Machine

open Sys2Proof

/-! ### What a decision leaves -/

/-- Everything but the register's records and amendments, the messages the Day Register makes and the
first-fault record is as it was. -/
structure MarksOnly (s t : State) : Prop where
  clock : t.clock = s.clock
  day : t.day = s.day
  store : t.store = s.store
  timetable : t.timetable = s.timetable
  bells : t.bells = s.bells
  pupils : t.pupils = s.pupils
  arrivals : t.arrivals = s.arrivals
  messages : t.messages = s.messages
  totals : t.totals = s.totals
  roll : t.roll = s.roll
  lines : t.lines = s.lines
  pending : t.pending = s.pending
  closed : t.register.closed = s.register.closed
  group : t.register.group = s.register.group
  walker : t.register.walker = s.register.walker
  ports : t.link.ports = s.link.ports
  restartDue : t.link.restartDue = s.link.restartDue
  concern : t.wires.concern = s.wires.concern
  lateness : t.wires.lateness = s.wires.lateness
  reports : t.wires.reports = s.wires.reports

namespace MarksOnly

theorem refl (s : State) : MarksOnly s s := by constructor <;> rfl

theorem trans {s t u : State} (h : MarksOnly s t) (k : MarksOnly t u) : MarksOnly s u := by
  constructor
  · exact k.clock.trans h.clock
  · exact k.day.trans h.day
  · exact k.store.trans h.store
  · exact k.timetable.trans h.timetable
  · exact k.bells.trans h.bells
  · exact k.pupils.trans h.pupils
  · exact k.arrivals.trans h.arrivals
  · exact k.messages.trans h.messages
  · exact k.totals.trans h.totals
  · exact k.roll.trans h.roll
  · exact k.lines.trans h.lines
  · exact k.pending.trans h.pending
  · exact k.closed.trans h.closed
  · exact k.group.trans h.group
  · exact k.walker.trans h.walker
  · exact k.ports.trans h.ports
  · exact k.restartDue.trans h.restartDue
  · exact k.concern.trans h.concern
  · exact k.lateness.trans h.lateness
  · exact k.reports.trans h.reports

theorem port {s t : State} (h : MarksOnly s t) (p : PortId) : t.port p = s.port p := by
  simp [State.port, h.ports]

theorem pupilAt {s t : State} (h : MarksOnly s t) (k : Nat) :
    Machine.pupilAt t k = Machine.pupilAt s k := by
  simp [Machine.pupilAt, h.pupils]

theorem now {s t : State} (h : MarksOnly s t) : Machine.now t = Machine.now s := by
  simp [Machine.now, h.clock]

theorem cohortPlan {s t : State} (h : MarksOnly s t) (c : Nat) :
    Machine.cohortPlan t c = Machine.cohortPlan s c := by
  simp [Machine.cohortPlan, h.day, h.store, h.clock]

end MarksOnly

/-! ### What a decision leaves of a record -/

namespace RegisterRecord.sameButGap

theorem refl (a : RegisterRecord) : a.sameButGap a := rfl

theorem trans {a b c : RegisterRecord} (h : a.sameButGap b) (k : b.sameButGap c) :
    a.sameButGap c := by
  unfold sameButGap at *
  rw [k, h]

theorem mark {a b : RegisterRecord} (h : a.sameButGap b) (y : Session) :
    (b.session y).mark = (a.session y).mark := by
  rw [h]; cases y <;> rfl

theorem session {a b : RegisterRecord} (h : a.sameButGap b) (y : Session) :
    b.session y = { a.session y with trailGap := (b.session y).trailGap } := by
  cases y
  · show b.am = _
    rw [h]; rfl
  · show b.pm = _
    rw [h]; rfl

theorem presence {a b : RegisterRecord} (h : a.sameButGap b) : b.presence = a.presence := by rw [h]

theorem signIn {a b : RegisterRecord} (h : a.sameButGap b) : b.signIn = a.signIn := by rw [h]

end RegisterRecord.sameButGap

/-! ### Records read back -/

variable {s : State}

/-- The records are canonical within some bound. -/
def recordsWf (s : State) : Prop := ∃ b, tableWf noRecord b s.register.records = true

theorem recordsWf_of_canonical (h : s.canonical) : recordsWf s := ⟨_, h.1⟩

theorem tableWf_mono {α : Type} [DecidableEq α] {d : α} {b c : Nat} (hbc : b ≤ c) :
    ∀ {t : SlotTable α}, tableWf d b t = true → tableWf d c t = true
  | [], _ => rfl
  | (k, v) :: rest, h => by
    rw [tableWf_cons] at h ⊢
    exact ⟨by omega, h.2.1, h.2.2.1, tableWf_mono hbc h.2.2.2⟩

theorem recordAt_setRecord_same (h : recordsWf s) (k : Nat) (r : RegisterRecord) :
    recordAt (setRecord k r s) k = r := by
  obtain ⟨b, h⟩ := h
  simp [recordAt, readSlot_writeSlot_same r h]

theorem recordAt_setRecord_ne {k l : Nat} (r : RegisterRecord) (h : l ≠ k) :
    recordAt (setRecord k r s) l = recordAt s l := by
  simp [recordAt, readSlot_writeSlot_ne r h]

theorem recordsWf_setRecord (h : recordsWf s) (k : Nat) (r : RegisterRecord) :
    recordsWf (setRecord k r s) := by
  obtain ⟨b, h⟩ := h
  refine ⟨max b (k + 1), ?_⟩
  simp only [setRecord_register]
  exact tableWf_writeSlot r (tableWf_mono (by omega) h) (by omega)

theorem marksOnly_setRecord (k : Nat) (r : RegisterRecord) : MarksOnly s (setRecord k r s) := by
  constructor <;> rfl

/-! ### The operations a decision is made of -/

theorem marksOnly_tellMessages (m : ToMessages) : MarksOnly s (tellMessages m s) := by
  constructor <;> rfl

theorem marksOnly_tellAccumulators (m : ToAccumulators) : MarksOnly s (tellAccumulators m s) := by
  constructor <;> rfl

theorem recordAt_of_records {t : State} (h : t.register.records = s.register.records) (k : Nat) :
    recordAt t k = recordAt s k := by
  simp [recordAt, h]

theorem recordsWf_of_records {t : State} (h : t.register.records = s.register.records)
    (w : recordsWf s) : recordsWf t := by
  obtain ⟨b, w⟩ := w
  exact ⟨b, by rw [h]; exact w⟩

/-- A change of presence writes the presence and, on site, clears the returning flag; it is passed to
the Site Roll when it is one (R79). -/
theorem setPresence_spec (w : recordsWf s) (k : Nat) (x : Presence) :
    MarksOnly s (setPresence k x s) ∧ recordsWf (setPresence k x s)
      ∧ (setPresence k x s).register.amendments = s.register.amendments
      ∧ (setPresence k x s).wires.toMessages = s.wires.toMessages
      ∧ (setPresence k x s).wires.toAccumulators = s.wires.toAccumulators
      ∧ (∀ l, l ≠ k → recordAt (setPresence k x s) l = recordAt s l)
      ∧ recordAt (setPresence k x s) k
        = { recordAt s k with
            presence := x
            returning := if (recordAt s k).presence ≠ x ∧ x = .onSite then false
              else (recordAt s k).returning } := by
  by_cases h : (recordAt s k).presence = x
  · have e : setPresence k x s = s := by simp [setPresence, h]
    rw [e]
    refine ⟨.refl s, w, rfl, rfl, rfl, fun _ _ => rfl, ?_⟩
    subst h
    simp
  · have e : setPresence k x s
        = { setRecord k { recordAt s k with
              presence := x
              returning := if x = .onSite then false else (recordAt s k).returning } s with
            wires := { s.wires with toRoll := s.wires.toRoll ++ [⟨k, x⟩] } } := by
      simp [setPresence, h]
    rw [e]
    refine ⟨?_, ?_, rfl, rfl, rfl, ?_, ?_⟩
    · constructor <;> rfl
    · exact recordsWf_of_records (t := { setRecord k _ s with wires := _ }) rfl
        (recordsWf_setRecord w k _)
    · intro l hl
      exact (recordAt_of_records (t := { setRecord k _ s with wires := _ }) rfl l).trans
        (recordAt_setRecord_ne _ hl)
    · refine (recordAt_of_records (t := { setRecord k _ s with wires := _ }) rfl k).trans
        ((recordAt_setRecord_same w k _).trans ?_)
      simp [h]

theorem marksOnly_reportFault (r : FaultRecord) : MarksOnly s (reportFault r s) := by
  unfold reportFault
  split
  · exact .refl s
  · split <;> constructor <;> rfl

theorem reportFault_register (r : FaultRecord) : (reportFault r s).register = s.register := by
  unfold reportFault
  split
  · rfl
  · split <;> rfl

/-- A fault report reads the Plan Store and the link alone. -/
theorem reportFault_link {s t : State} (r : FaultRecord) (h1 : t.link = s.link)
    (h2 : t.store = s.store) : (reportFault r t).link = (reportFault r s).link := by
  unfold reportFault
  rw [h2, h1]
  split
  · exact h1
  · split <;> rfl

theorem reportFault_wires (r : FaultRecord) : (reportFault r s).wires = s.wires := by
  unfold reportFault
  split
  · rfl
  · split <;> rfl

/-- An appended amendment stands last, and every record is as it was but for trail gap flags (R92,
R93). -/
theorem appendAmendment_spec (w : recordsWf s) (a : Amendment) :
    MarksOnly s (appendAmendment a s) ∧ recordsWf (appendAmendment a s)
      ∧ (appendAmendment a s).register.amendments.getLast? = some a
      ∧ (appendAmendment a s).wires = s.wires
      ∧ ∀ l, (recordAt s l).sameButGap (recordAt (appendAmendment a s) l) := by
  unfold appendAmendment
  split
  · rename_i old rest h
    split
    · refine ⟨?_, ?_, ?_, ?_, ?_⟩
      · refine MarksOnly.trans ?_ (marksOnly_reportFault _)
        constructor <;> rfl
      · refine recordsWf_of_records (s := markGap old.slot old.session s)
          (by rw [reportFault_register]; rfl) ?_
        exact recordsWf_setRecord w _ _
      · rw [reportFault_register]; simp [State.onRegister]
      · rw [reportFault_wires]; rfl
      · intro l
        have e : recordAt (reportFault ⟨.trailOverrun, none, some (.slot old.slot), now s⟩
            ((markGap old.slot old.session s).onRegister fun r =>
              { r with amendments := rest ++ [a], lost := satAdd 65535 r.lost 1 })) l
            = recordAt (markGap old.slot old.session s) l :=
          recordAt_of_records (by rw [reportFault_register]; rfl) l
        refine Eq.mpr (congrArg (recordAt s l).sameButGap e) ?_
        by_cases hl : l = old.slot
        · subst hl
          rw [markGap, recordAt_setRecord_same w]
          cases old.session <;> rfl
        · rw [markGap, recordAt_setRecord_ne _ hl]; rfl
    · refine ⟨?_, recordsWf_of_records (s := s) rfl w, by simp [State.onRegister], rfl,
        fun _ => rfl⟩
      constructor <;> rfl
  · refine ⟨?_, recordsWf_of_records (s := s) rfl w, rfl, rfl, fun _ => rfl⟩
    constructor <;> rfl

theorem RegisterRecord.session_setSession_same (r : RegisterRecord) (x : Session)
    (m : SessionMarks) : (r.setSession x m).session x = m := by cases x <;> rfl

theorem RegisterRecord.session_setSession_ne (r : RegisterRecord) {x y : Session}
    (m : SessionMarks) (h : y ≠ x) : (r.setSession x m).session y = r.session y := by
  cases x <;> cases y <;> first | rfl | exact absurd rfl h

/-- What an append does to the list, the lost count, the trail gaps and the first-fault record (R92,
R93). -/
theorem appendAmendment_appended (w : recordsWf s) (a : Amendment) :
    AmendmentAppended s (appendAmendment a s) a := by
  unfold appendAmendment
  constructor
  · intro hl
    split
    · rename_i old rest h
      rw [if_neg (by simpa [Config.amendmentPlaces] using hl)]
      exact ⟨rfl, rfl, rfl, fun _ _ => rfl⟩
    · rename_i h
      exact ⟨by rw [h]; rfl, rfl, rfl, fun _ _ => rfl⟩
  · intro old rest h hl
    rw [h]
    dsimp only
    rw [if_pos (by simpa [Config.amendmentPlaces, h] using hl)]
    have e : ∀ k, recordAt (reportFault ⟨.trailOverrun, none, some (.slot old.slot), now s⟩
        ((markGap old.slot old.session s).onRegister fun r =>
          { r with amendments := rest ++ [a], lost := satAdd 65535 r.lost 1 })) k
        = recordAt (markGap old.slot old.session s) k := fun k =>
      recordAt_of_records (by rw [reportFault_register]; rfl) k
    refine ⟨by rw [reportFault_register]; rfl, by rw [reportFault_register]; rfl, ?_, ?_, ?_⟩
    · exact reportFault_link _ rfl rfl
    · refine (congrArg (fun r => (RegisterRecord.session r old.session).trailGap) (e _)).trans ?_
      rw [markGap, recordAt_setRecord_same w, RegisterRecord.session_setSession_same]
    · intro k y hk
      refine (congrArg (fun r => (RegisterRecord.session r y).trailGap) (e _)).trans ?_
      by_cases hs : k = old.slot
      · subst hs
        rw [markGap, recordAt_setRecord_same w,
          RegisterRecord.session_setSession_ne _ _ (hk.resolve_left fun c => c rfl)]
      · rw [markGap, recordAt_setRecord_ne _ hs]

/-! ### Deciding a proposal -/

/-- A message to a neighbour leaves the register. -/
theorem enterUnexplained_spec (p : Proposal) (ref : PupilRef) (mark : Mark) :
    MarksOnly s (enterUnexplained p ref mark s)
      ∧ (enterUnexplained p ref mark s).register = s.register
      ∧ (enterUnexplained p ref mark s).wires.toMessages
        = s.wires.toMessages
          ++ (if mark = .unexplained ∧ raisesAlert p.source then [.raise p.slot ref p.session]
              else []) := by
  unfold enterUnexplained
  split
  · exact ⟨marksOnly_tellMessages _, rfl, rfl⟩
  · exact ⟨.refl s, rfl, by simp⟩

theorem leaveUnexplainedMark_spec (m : SessionMarks) (p : Proposal) (ref : PupilRef) (mark : Mark) :
    MarksOnly s (leaveUnexplainedMark m p ref mark s)
      ∧ (leaveUnexplainedMark m p ref mark s).register = s.register
      ∧ (leaveUnexplainedMark m p ref mark s).wires.toMessages
        = s.wires.toMessages
          ++ (if m.mark = .unexplained then [.leave p.slot ref p.session mark] else []) := by
  unfold leaveUnexplainedMark
  split
  · cases m.since
    · exact ⟨marksOnly_tellMessages _, rfl, rfl⟩
    · exact ⟨(marksOnly_tellAccumulators _).trans (marksOnly_tellMessages _), rfl, rfl⟩
  · exact ⟨.refl s, rfl, by simp⟩

theorem RegisterRecord.presence_setSession (r : RegisterRecord) (x : Session)
    (m : SessionMarks) : (r.setSession x m).presence = r.presence := by cases x <;> rfl

theorem RegisterRecord.signIn_setSession (r : RegisterRecord) (x : Session)
    (m : SessionMarks) : (r.setSession x m).signIn = r.signIn := by cases x <;> rfl

/-- The state once an applied mark has made its presence, if it makes one (R79). -/
def madePresence (k : Nat) (mark : Mark) (s : State) : State :=
  match presenceOf mark with
  | some x => setPresence k x s
  | none => s

/-- The state once an applied change has appended its amendment, if it makes one (R92). -/
def madeAmendment (old : Mark) (a : Amendment) (s : State) : State :=
  if old = .blank then s else appendAmendment a s

theorem applyChange_eq (m : SessionMarks) (p : Proposal) (ref : PupilRef) (mark : Mark) :
    applyChange m p ref mark s
      = enterUnexplained p ref mark (leaveUnexplainedMark m p ref mark
          (madeAmendment m.mark ⟨p.slot, p.session, m.mark, mark, p.source, p.stamp⟩
            (madePresence p.slot mark (setRecord p.slot
              ((recordAt s p.slot).setSession p.session (changedMarks m p mark)) s)))) := rfl

theorem madePresence_spec (w : recordsWf s) (k : Nat) (mark : Mark) :
    let t := madePresence k mark s
    MarksOnly s t ∧ recordsWf t ∧ t.register.amendments = s.register.amendments
      ∧ t.wires.toMessages = s.wires.toMessages
      ∧ (∀ l, l ≠ k → recordAt t l = recordAt s l)
      ∧ (∀ y, (recordAt t k).session y = (recordAt s k).session y)
      ∧ (recordAt t k).signIn = (recordAt s k).signIn
      ∧ (recordAt t k).presence = (presenceOf mark).getD (recordAt s k).presence := by
  dsimp only
  unfold madePresence
  cases presenceOf mark with
  | none => exact ⟨.refl s, w, rfl, rfl, fun _ _ => rfl, fun _ => rfl, rfl, rfl⟩
  | some x =>
    obtain ⟨h1, h2, h3, h4, -, h6, h7⟩ := setPresence_spec w k x
    refine ⟨h1, h2, h3, h4, h6, ?_, ?_, ?_⟩
    · intro y; rw [h7]; cases y <;> rfl
    · rw [h7]
    · rw [h7]; rfl

theorem madeAmendment_spec (w : recordsWf s) (old : Mark) (a : Amendment) :
    let t := madeAmendment old a s
    MarksOnly s t ∧ recordsWf t
      ∧ (old = .blank → t.register.amendments = s.register.amendments)
      ∧ (old ≠ .blank → t.register.amendments.getLast? = some a)
      ∧ t.wires = s.wires
      ∧ ∀ l, (recordAt s l).sameButGap (recordAt t l) := by
  dsimp only
  unfold madeAmendment
  split
  · rename_i h
    exact ⟨.refl s, w, fun _ => rfl, fun k => absurd h k, rfl, fun _ => .refl _⟩
  · rename_i h
    obtain ⟨x1, x2, x3, x4, x5⟩ := appendAmendment_spec w a
    exact ⟨x1, x2, fun k => absurd k h, fun _ => x3, x4, x5⟩

/-- What an applied change that is not a repeat does (R79, R82 to R85, R92): the session's fields, the
presence, the amendment and the messages; every other mark is as it was. -/
theorem applyChange_spec (w : recordsWf s) (m : SessionMarks) (p : Proposal) (ref : PupilRef)
    (mark : Mark) :
    let t := applyChange m p ref mark s
    MarksOnly s t ∧ recordsWf t
      ∧ (∀ l, l ≠ p.slot → (recordAt s l).sameButGap (recordAt t l))
      ∧ (∃ gap, (recordAt t p.slot).session p.session
          = { changedMarks m p mark with trailGap := gap })
      ∧ (∀ y, y ≠ p.session → markOf t p.slot y = markOf s p.slot y)
      ∧ (recordAt t p.slot).signIn = (recordAt s p.slot).signIn
      ∧ (recordAt t p.slot).presence = (presenceOf mark).getD (recordAt s p.slot).presence
      ∧ (m.mark = .blank → t.register.amendments = s.register.amendments)
      ∧ (m.mark ≠ .blank → t.register.amendments.getLast?
          = some ⟨p.slot, p.session, m.mark, mark, p.source, p.stamp⟩)
      ∧ t.wires.toMessages
        = s.wires.toMessages
          ++ (if m.mark = .unexplained then [.leave p.slot ref p.session mark] else [])
          ++ (if mark = .unexplained ∧ raisesAlert p.source then [.raise p.slot ref p.session]
              else []) := by
  rw [applyChange_eq]
  dsimp only
  generalize hs1 : setRecord p.slot
    ((recordAt s p.slot).setSession p.session (changedMarks m p mark)) s = s1
  have r1 : recordAt s1 p.slot
      = (recordAt s p.slot).setSession p.session (changedMarks m p mark) := by
    rw [← hs1]; exact recordAt_setRecord_same w _ _
  have o1 : ∀ l, l ≠ p.slot → recordAt s1 l = recordAt s l := by
    intro l hl; rw [← hs1]; exact recordAt_setRecord_ne _ hl
  have w1 : recordsWf s1 := by rw [← hs1]; exact recordsWf_setRecord w _ _
  have q1 : MarksOnly s s1 := by rw [← hs1]; exact marksOnly_setRecord _ _
  have a1 : s1.register.amendments = s.register.amendments := by rw [← hs1]; rfl
  have t1 : s1.wires = s.wires := by rw [← hs1]; rfl
  clear hs1
  obtain ⟨q2, w2, a2, t2, o2, r2, g2, p2⟩ := madePresence_spec w1 p.slot mark
  generalize madePresence p.slot mark s1 = s2 at *
  obtain ⟨q3, w3, a3, b3, t3, o3⟩ := madeAmendment_spec w2 m.mark
    ⟨p.slot, p.session, m.mark, mark, p.source, p.stamp⟩
  generalize madeAmendment m.mark ⟨p.slot, p.session, m.mark, mark, p.source, p.stamp⟩ s2 = s3 at *
  obtain ⟨q4, g4, t4⟩ := leaveUnexplainedMark_spec (s := s3) m p ref mark
  generalize leaveUnexplainedMark m p ref mark s3 = s4 at *
  obtain ⟨q5, g5, t5⟩ := enterUnexplained_spec (s := s4) p ref mark
  generalize enterUnexplained p ref mark s4 = s5 at *
  have e5 : ∀ l, recordAt s5 l = recordAt s3 l := fun l =>
    recordAt_of_records (by rw [g5, g4]) l
  refine ⟨(((q1.trans q2).trans q3).trans q4).trans q5,
    recordsWf_of_records (by rw [g5, g4]) w3, ?_, ?_, ?_, ?_, ?_, ?_, ?_, ?_⟩
  · intro l hl
    have := o3 l
    rw [e5, ← o1 l hl, ← o2 l hl]
    exact this
  · refine ⟨((recordAt s3 p.slot).session p.session).trailGap, ?_⟩
    have := (o3 p.slot).session p.session
    rw [r2, r1, RegisterRecord.session_setSession_same] at this
    rw [e5]; exact this
  · intro y hy
    show ((recordAt s5 p.slot).session y).mark = ((recordAt s p.slot).session y).mark
    rw [e5, (o3 p.slot).mark y, r2, r1, RegisterRecord.session_setSession_ne _ _ hy]
  · rw [e5, (o3 p.slot).signIn, g2, r1, RegisterRecord.signIn_setSession]
  · rw [e5, (o3 p.slot).presence, p2, r1, RegisterRecord.presence_setSession]
  · intro hb; rw [g5, g4, a3 hb, a2, a1]
  · intro hb; rw [g5, g4]; exact b3 hb
  · rw [t5, t4, t3, t2, t1]

/-- Nothing appended leaves the trail: the amendment list, the lost count, the link and every trail gap flag
(R92, R93). -/
theorem appended_nil_refl (s : State) : AmendmentsAppended [] s s := ⟨rfl, rfl, rfl, fun _ _ => rfl⟩

/-- Trails that read alike. -/
theorem appended_nil_trans {s t u : State} (h : AmendmentsAppended [] s t)
    (k : AmendmentsAppended [] t u) : AmendmentsAppended [] s u :=
  ⟨k.1.trans h.1, k.2.1.trans h.2.1, k.2.2.1.trans h.2.2.1,
    fun l y => (k.2.2.2 l y).trans (h.2.2.2 l y)⟩

/-- An append between two states is one between any two whose trails read as theirs. -/
theorem appended_congr {s s' t t' : State} {a : Amendment} (hs : AmendmentsAppended [] s s')
    (hc : s'.clock = s.clock) (hp : s'.store = s.store) (ht : AmendmentsAppended [] t' t)
    (h : AmendmentAppended s' t' a) : AmendmentAppended s t a := by
  obtain ⟨s1, s2, s3, s4⟩ := hs
  obtain ⟨t1, t2, t3, t4⟩ := ht
  obtain ⟨h1, h2⟩ := h
  have hn : now s' = now s := by simp [now, hc]
  constructor
  · intro hl
    obtain ⟨x1, x2, x3, x4⟩ := h1 (by rw [s1]; exact hl)
    exact ⟨by rw [t1, x1, s1], by rw [t2, x2, s2], by rw [t3, x3, s3],
      fun k y => by rw [t4, x4, s4]⟩
  · intro old rest ho hl
    obtain ⟨x1, x2, x3, x4, x5⟩ := h2 old rest (by rw [s1]; exact ho) (by rw [s1]; exact hl)
    refine ⟨by rw [t1, x1], by rw [t2, x2, s2], ?_, by rw [t4, x4], fun k y hk => by
      rw [t4, x5 k y hk, s4]⟩
    rw [t3, x3, hn]
    exact reportFault_link _ s3 hp

/-- Appends between two states are appends between any two whose trails read as theirs. -/
theorem appendeds_congr {s s' t t' : State} {l : List Amendment} (hs : AmendmentsAppended [] s s')
    (hc : s'.clock = s.clock) (hp : s'.store = s.store) (ht : AmendmentsAppended [] t' t)
    (h : AmendmentsAppended l s' t') : AmendmentsAppended l s t := by
  induction l generalizing s s' with
  | nil => exact appended_nil_trans (appended_nil_trans hs h) ht
  | cons a l ih =>
    obtain ⟨u, u1, u2, u3, u4⟩ := h
    exact ⟨u, u1.trans hc, u2.trans hp, appended_congr hs hc hp (appended_nil_refl u) u3,
      ih (appended_nil_refl u) rfl rfl u4⟩

/-- Appends after appends. -/
theorem appendeds_append {s t u : State} {l k : List Amendment} (hc : t.clock = s.clock)
    (hp : t.store = s.store) (h : AmendmentsAppended l s t) (g : AmendmentsAppended k t u) :
    AmendmentsAppended (l ++ k) s u := by
  induction l generalizing s with
  | nil => exact appendeds_congr h hc hp (appended_nil_refl u) g
  | cons a l ih =>
    obtain ⟨v, v1, v2, v3, v4⟩ := h
    exact ⟨v, v1, v2, v3, ih (hc.trans v1.symm) (hp.trans v2.symm) v4⟩

/-- A record written with the trail gap flags it had leaves the trail. -/
theorem appended_nil_setRecord (w : recordsWf s) (k : Nat) (r : RegisterRecord)
    (h : ∀ y, (r.session y).trailGap = ((recordAt s k).session y).trailGap) :
    AmendmentsAppended [] s (setRecord k r s) := by
  refine ⟨rfl, rfl, rfl, fun l y => ?_⟩
  by_cases hl : l = k
  · subst hl; rw [recordAt_setRecord_same w]; exact h y
  · rw [recordAt_setRecord_ne _ hl]

/-- What the register and the link do not hold is not the trail. -/
theorem appended_nil_of_register {s t : State} (h : t.register = s.register) (g : t.link = s.link) :
    AmendmentsAppended [] s t :=
  ⟨by rw [h], by rw [h], g, fun l y => by
    rw [recordAt_of_records (s := s) (congrArg DayRegister.records h) l]⟩

/-- A change of presence leaves the trail, and is passed to the Site Roll when it is one (R79). -/
theorem setPresence_trail (w : recordsWf s) (k : Nat) (x : Presence) :
    AmendmentsAppended [] s (setPresence k x s) ∧ (setPresence k x s).wires
      = { s.wires with toRoll := if (recordAt s k).presence = x then s.wires.toRoll
            else s.wires.toRoll ++ [⟨k, x⟩] } := by
  by_cases h : (recordAt s k).presence = x
  · have e : setPresence k x s = s := by simp [setPresence, h]
    rw [e, if_pos h]
    exact ⟨appended_nil_refl s, rfl⟩
  · have e : setPresence k x s
        = { setRecord k { recordAt s k with
              presence := x
              returning := if x = .onSite then false else (recordAt s k).returning } s with
            wires := { s.wires with toRoll := s.wires.toRoll ++ [⟨k, x⟩] } } := by
      simp [setPresence, h]
    rw [e, if_neg h]
    refine ⟨?_, rfl⟩
    exact appended_nil_trans (appended_nil_setRecord w k _ fun y => by cases y <;> rfl)
      (appended_nil_of_register rfl rfl)

/-- All that an applied change which is not a repeat does (R79, R82 to R85, R92, R93): the session's
fields, the presence, the trail, and what the neighbours are told; the rest of every record stays, but for
trail gap flags. -/
theorem applyChange_all (w : recordsWf s) (p : Proposal) (ref : PupilRef) (mark : Mark) :
    let m := (recordAt s p.slot).session p.session
    let r := recordAt s p.slot
    let t := applyChange m p ref mark s
    MarksOnly s t ∧ recordsWf t
      ∧ (∀ l, l ≠ p.slot → (recordAt s l).sameButGap (recordAt t l))
      ∧ ({ r.setSession p.session (changedMarks m p mark) with
            presence := (presenceOf mark).getD r.presence
            returning := if presenceOf mark = some .onSite ∧ r.presence ≠ .onSite then false
              else r.returning } : RegisterRecord).sameButGap (recordAt t p.slot)
      ∧ AmendmentsAppended
        (if m.mark = .blank then [] else [⟨p.slot, p.session, m.mark, mark, p.source, p.stamp⟩]) s t
      ∧ t.wires = { s.wires with
          toMessages := s.wires.toMessages
            ++ (if m.mark = .unexplained then [.leave p.slot ref p.session mark] else [])
            ++ (if mark = .unexplained ∧ raisesAlert p.source then [.raise p.slot ref p.session]
                else [])
          toAccumulators := s.wires.toAccumulators
            ++ (if m.mark = .unexplained then
                  (m.since.map fun since =>
                    .openMinutes p.slot ref (secondsBetween since p.stamp / 60)).toList else [])
          toRoll := s.wires.toRoll
            ++ (match presenceOf mark with
                | some x => if r.presence = x then [] else [⟨p.slot, x⟩]
                | none => []) } := by
  dsimp only
  rw [applyChange_eq]
  generalize hm : (recordAt s p.slot).session p.session = m
  generalize hs1 : setRecord p.slot
    ((recordAt s p.slot).setSession p.session (changedMarks m p mark)) s = s1
  have r1 : recordAt s1 p.slot
      = (recordAt s p.slot).setSession p.session (changedMarks m p mark) := by
    rw [← hs1]; exact recordAt_setRecord_same w _ _
  have o1 : ∀ l, l ≠ p.slot → recordAt s1 l = recordAt s l := by
    intro l hl; rw [← hs1]; exact recordAt_setRecord_ne _ hl
  have w1 : recordsWf s1 := by rw [← hs1]; exact recordsWf_setRecord w _ _
  have q1 : MarksOnly s s1 := by rw [← hs1]; exact marksOnly_setRecord _ _
  have n1 : AmendmentsAppended [] s s1 := by
    rw [← hs1]
    refine appended_nil_setRecord w _ _ fun y => ?_
    by_cases hy : y = p.session
    · subst hy; rw [RegisterRecord.session_setSession_same, hm]; rfl
    · rw [RegisterRecord.session_setSession_ne _ _ hy]
  have t1 : s1.wires = s.wires := by rw [← hs1]; rfl
  clear hs1
  obtain ⟨s2, hs2, q2, w2, o2, r2, n2, t2⟩ : ∃ s2, madePresence p.slot mark s1 = s2 ∧ MarksOnly s1 s2
      ∧ recordsWf s2 ∧ (∀ l, l ≠ p.slot → recordAt s2 l = recordAt s1 l)
      ∧ recordAt s2 p.slot = { recordAt s1 p.slot with
          presence := (presenceOf mark).getD (recordAt s1 p.slot).presence
          returning := if presenceOf mark = some .onSite ∧ (recordAt s1 p.slot).presence ≠ .onSite
            then false else (recordAt s1 p.slot).returning }
      ∧ AmendmentsAppended [] s1 s2
      ∧ s2.wires = { s1.wires with toRoll := s1.wires.toRoll
            ++ (match presenceOf mark with
                | some x => if (recordAt s1 p.slot).presence = x then [] else [⟨p.slot, x⟩]
                | none => []) } := by
    refine ⟨_, rfl, ?_⟩
    unfold madePresence
    cases presenceOf mark with
    | none => exact ⟨.refl _, w1, fun _ _ => rfl, by simp, appended_nil_refl _, by simp⟩
    | some x =>
      obtain ⟨h1, h2, -, -, -, h6, h7⟩ := setPresence_spec w1 p.slot x
      obtain ⟨k1, k2⟩ := setPresence_trail w1 p.slot x
      refine ⟨h1, h2, h6, ?_, k1, ?_⟩
      · rw [h7]
        by_cases hx : x = .onSite
        · subst hx; simp
        · simp [hx]
      · rw [k2]; dsimp only; split <;> simp
  rw [hs2]; clear hs2
  obtain ⟨s3, hs3, q3, w3, t3, o3, n3⟩ : ∃ s3,
      madeAmendment m.mark ⟨p.slot, p.session, m.mark, mark, p.source, p.stamp⟩ s2 = s3
      ∧ MarksOnly s2 s3 ∧ recordsWf s3 ∧ s3.wires = s2.wires
      ∧ (∀ l, (recordAt s2 l).sameButGap (recordAt s3 l))
      ∧ AmendmentsAppended (if m.mark = .blank then []
          else [⟨p.slot, p.session, m.mark, mark, p.source, p.stamp⟩]) s2 s3 := by
    refine ⟨_, rfl, ?_⟩
    unfold madeAmendment
    split
    · exact ⟨.refl _, w2, rfl, fun _ => .refl _, appended_nil_refl _⟩
    · obtain ⟨x1, x2, x3, x4, x5⟩ := appendAmendment_spec w2
        ⟨p.slot, p.session, m.mark, mark, p.source, p.stamp⟩
      exact ⟨x1, x2, x4, x5, _, x1.clock, x1.store, appendAmendment_appended w2 _,
        appended_nil_refl _⟩
  rw [hs3]; clear hs3
  obtain ⟨s5, hs5, q5, g5, t5⟩ : ∃ s5,
      enterUnexplained p ref mark (leaveUnexplainedMark m p ref mark s3) = s5
      ∧ MarksOnly s3 s5 ∧ s5.register = s3.register ∧ s5.wires = { s3.wires with
          toMessages := s3.wires.toMessages
            ++ (if m.mark = .unexplained then [.leave p.slot ref p.session mark] else [])
            ++ (if mark = .unexplained ∧ raisesAlert p.source then [.raise p.slot ref p.session]
                else [])
          toAccumulators := s3.wires.toAccumulators
            ++ (if m.mark = .unexplained then
                  (m.since.map fun since =>
                    .openMinutes p.slot ref (secondsBetween since p.stamp / 60)).toList else []) } := by
    refine ⟨_, rfl, ?_⟩
    obtain ⟨h1, h2, -⟩ := leaveUnexplainedMark_spec (s := s3) m p ref mark
    obtain ⟨k1, k2, -⟩ := enterUnexplained_spec (s := leaveUnexplainedMark m p ref mark s3) p ref mark
    refine ⟨h1.trans k1, k2.trans h2, ?_⟩
    unfold enterUnexplained leaveUnexplainedMark
    by_cases hu : m.mark = .unexplained <;> by_cases he : mark = .unexplained ∧ raisesAlert p.source
    all_goals cases hsin : m.since <;> simp [hu, he, tellMessages, tellAccumulators]
  have l5 : s5.link = s3.link := by
    rw [← hs5]
    unfold enterUnexplained leaveUnexplainedMark
    cases m.since <;> (split <;> split <;> rfl)
  rw [hs5]; clear hs5
  have e5 : ∀ l, recordAt s5 l = recordAt s3 l := fun l => recordAt_of_records (by rw [g5]) l
  refine ⟨((q1.trans q2).trans q3).trans q5, recordsWf_of_records (by rw [g5]) w3, ?_, ?_, ?_, ?_⟩
  · intro l hl
    have := o3 l
    rw [e5, ← o1 l hl, ← o2 l hl]
    exact this
  · have := o3 p.slot
    rw [r2, r1] at this
    rw [e5]
    rw [RegisterRecord.presence_setSession] at this
    have hr : ((recordAt s p.slot).setSession p.session (changedMarks m p mark)).returning
        = (recordAt s p.slot).returning := by cases p.session <;> rfl
    rw [hr] at this
    exact this
  · exact appendeds_congr (appended_nil_trans n1 n2) (q2.clock.trans q1.clock)
      (q2.store.trans q1.store) (appended_nil_of_register g5 l5) n3
  · rw [t5, t3, t2, t1, r1, RegisterRecord.presence_setSession]

/-- What an applied repeat does (R81, R82). -/
theorem applyRepeat_spec (w : recordsWf s) (p : Proposal) (mark : Mark) :
    let t := applyRepeat ((recordAt s p.slot).session p.session) p mark s
    MarksOnly s t ∧ recordsWf t ∧ t.wires = s.wires ∧ t.link = s.link
      ∧ t.register.amendments = s.register.amendments
      ∧ (∀ l, l ≠ p.slot → recordAt t l = recordAt s l)
      ∧ (∀ y, markOf t p.slot y = markOf s p.slot y)
      ∧ (recordAt t p.slot).presence = (recordAt s p.slot).presence
      ∧ (recordAt t p.slot).signIn = (recordAt s p.slot).signIn
      ∧ (mark ≠ .notified → t = s)
      ∧ (mark = .notified → (recordAt t p.slot).session p.session
          = { (recordAt s p.slot).session p.session with
              notice := p.notice, lastSource := some p.source, lastChange := some p.stamp }) := by
  dsimp only
  unfold applyRepeat
  split
  · rename_i h
    refine ⟨marksOnly_setRecord _ _, recordsWf_setRecord w _ _, rfl, rfl, rfl,
      fun l hl => recordAt_setRecord_ne _ hl, ?_, ?_, ?_, fun k => absurd h k, ?_⟩
    · intro y
      show ((recordAt _ p.slot).session y).mark = ((recordAt s p.slot).session y).mark
      rw [recordAt_setRecord_same w]
      by_cases hy : y = p.session
      · subst hy; rw [RegisterRecord.session_setSession_same]
      · rw [RegisterRecord.session_setSession_ne _ _ hy]
    · rw [recordAt_setRecord_same w, RegisterRecord.presence_setSession]
    · rw [recordAt_setRecord_same w, RegisterRecord.signIn_setSession]
    · intro _
      rw [recordAt_setRecord_same w, RegisterRecord.session_setSession_same]
  · rename_i h
    exact ⟨.refl s, w, rfl, rfl, rfl, fun _ _ => rfl, fun _ => rfl, rfl, rfl, fun _ => rfl,
      fun k => absurd k h⟩

/-- What deciding any proposal leaves (R80 to R85). -/
theorem propose_spec (w : recordsWf s) (p : Proposal) :
    MarksOnly s (propose p s).1 ∧ recordsWf (propose p s).1
      ∧ (∀ l, l ≠ p.slot → (recordAt s l).sameButGap (recordAt (propose p s).1 l))
      ∧ (∀ y, y ≠ p.session → markOf (propose p s).1 p.slot y = markOf s p.slot y)
      ∧ (recordAt (propose p s).1 p.slot).signIn = (recordAt s p.slot).signIn
      ∧ ((propose p s).2 ≠ .applied →
          ∀ l y, markOf (propose p s).1 l y = markOf s l y) := by
  unfold propose
  split
  · exact ⟨.refl s, w, fun _ _ => .refl _, fun _ _ => rfl, rfl, fun _ _ _ => rfl⟩
  · dsimp only
    split
    · exact ⟨.refl s, w, fun _ _ => .refl _, fun _ _ => rfl, rfl, fun _ _ _ => rfl⟩
    · split
      · exact ⟨.refl s, w, fun _ _ => .refl _, fun _ _ => rfl, rfl, fun _ _ _ => rfl⟩
      · exact ⟨marksOnly_tellMessages _, recordsWf_of_records (s := s) rfl w, fun _ _ => .refl _,
          fun _ _ => rfl, rfl, fun _ _ _ => rfl⟩
      · split
        · obtain ⟨h1, h2, -, -, -, h6, h7, -, h9, -⟩ := applyRepeat_spec w p
            (appliedMark ((recordAt s p.slot).session p.session) p)
          refine ⟨h1, h2, fun l hl => by rw [h6 l hl]; exact .refl _, fun y _ => h7 y, h9,
            fun _ l y => ?_⟩
          by_cases hl : l = p.slot
          · rw [hl]; exact h7 y
          · show ((recordAt _ l).session y).mark = ((recordAt s l).session y).mark
            rw [h6 l hl]
        · rename_i pupil _ _ _ _ _
          obtain ⟨h1, h2, h3, -, h5, h6, -⟩ := applyChange_spec w
            ((recordAt s p.slot).session p.session) p pupil.ref
            (appliedMark ((recordAt s p.slot).session p.session) p)
          exact ⟨h1, h2, h3, h5, h6, fun h => absurd rfl h⟩

end Sys2Proof.Machine
end

