-- ==== Sys2Proof/WellFormed.lean ====
section
/-! DEFINITION. The commands that can reach the part: their numbers fit the octets that carry them,
a frame whose form suits has no list longer than its count allows, and a receive fault is one. -/

namespace Sys2Proof

open Sys2Proof.Machine

/-- A number that fits some octets. -/
def fits (octets n : Nat) : Bool := decide (n < 256 ^ octets)

/-- A list of a frame whose form suits is no longer than its count allows (R163 check 3). -/
def Frame.listOk {α : Type} (f : Frame) (places : Nat) (list : List α) : Bool :=
  !f.suits || decide (list.length ≤ places)

/-- Whether a command can reach the part (R161 to R163, R171). A WRITE-PUPIL of more than three contacts
or a WRITE-PLAN of more than 24 entries, refused both by LI (R163 check 3) and by its owner's RANGE
(R64, R21), comes with its form not suiting, so LI's nameless BAD_FIELD answers it (DESIGN CHOICE,
unsafe, notes/assumptions/39). -/
def Instr.wellFormed : Instr → Bool
  | .setTime _ time _ base => fits 3 time && fits 1 base
  | .writePlan f r => f.listOk 24 r.entries
  | .writeCohorts f records => f.listOk 8 records
  | .writePupil f r => f.listOk 3 r.contacts
  | .signIn _ (.byCard card _) => fits 3 card
  | .signIn _ (.byReference _) => true
  | .messageResult _ tag _ => fits 2 tag
  | .handoverTimeout tag => within 1 65535 tag
  | .routeHoldExpiry route => within 1 31 route
  | .recomputePassComplete plan => within 1 8 plan
  | .frameHeaderFault _ h => h.cause.isSome
  | .frameCheckFault _ octets crc => frameBodyOk octets && decide (frameCrc octets ≠ crc)
  | .unknownKindFrame _ kind _ => (kindOfOctet kind).isNone
  | .portPark _ target | .portRelease _ target | .portCycle _ target => fits 1 target
  | .powerOnReset _ _ | .resetNLow | .secondEvent _ | .bellCountExpiry _ | .pushAssert
  | .pushRelease | .pushLimitExpiry | .alarmAssert | .alarmRelease | .readTime _ | .dayOpen _
  | .dayClose _ | .restart _ | .restartEffect | .openWalkVisit | .openWalkComplete _
  | .closeWalkVisit | .closeWalkComplete _ | .writeSettings _ _ | .readPlan _ _ _ | .shift _ _
  | .swap | .readTimetable _ _ _ | .writeQuiet _ _ _ | .ring _ _ _ | .clearPupil _ _ _
  | .writeWindow _ _ _ | .readPupil _ _ | .mark _ _ | .groupMark _ _ | .sessionSweepVisit
  | .routeSweepVisit | .groupWalkVisit | .walkComplete | .readRegister _ _ | .readChanges _
  | .signOut _ _ | .routeHold _ _ | .notice _ _ | .raiseAlert | .leaveUnexplained
  | .alertStateReport | .takeMessage _ | .readStanding _ _ | .cancelStanding _ _
  | .callListAdd _ | .readCalls _ _ | .clearCall _ _ | .confirmNotice _ _ _ | .latenessAccrual
  | .openMinutesAccrual | .fold | .readTotals _ _ | .termReset _ | .rollBuildVisit
  | .rollBuildComplete | .presenceChange | .readRoll _ _ | .account _ _ | .rollClose _
  | .receiveGapTimeout _ | .frameOverlap _ | .replyComplete _ | .setReplyLimit _ _
  | .linkStatus _ | .portCycleEnd _ | .readFaults _ | .clearFaults _ | .syncOctet _ => true

end Sys2Proof
end

