-- ==== Sys2Proof/Tests/Slice0.lean ====
section
/-! SUPPORT. The author's tests: the well-formedness checks each refusing a term, commands against
the manual's worked figures, and for each statement with hypotheses a state and operands that meet
them. -/

set_option maxRecDepth 20000

namespace Sys2Proof.Tests

open Sys2Proof Sys2Proof.Machine

/-! ### States the tests start from -/

/-- A frame on a port, its form suiting its kind. -/
def fr (p : PortId) : Frame := ⟨p, 7, true⟩

/-- The state a command leaves. -/
def after (c : Instr) (s : State) : State :=
  match exec c s with
  | .next t => t
  | .fault _ => s
  | .refused _ => s

/-- The status and body of the reply a port is sending. -/
def said (p : PortId) (s : State) : Option (Status × ReplyBody) :=
  (s.port p).reply.map fun r => (r.head.status, r.body)

/-- Plan 1 of the manual's worked figures (Timetable Compression, "Worked compression for plan 1"). -/
def worked : PlanBody :=
  let lesson : Entry := ⟨.lesson, 60, 45, true, .short, 0x3F, none, none⟩
  ⟨520,
    [⟨.registration, 20, 10, true, .long, 0xFF, some .am, some 15⟩, lesson, lesson,
     ⟨.recess, 20, 15, true, .short, 0x3F, none, none⟩, lesson,
     ⟨.lunch, 45, 35, true, .pulsed, 0x3F, none, none⟩,
     ⟨.registration, 10, 10, false, .short, 0x3F, some .pm, some 5⟩, lesson, lesson],
    .long, 0xFF⟩

/-- The pupil of slot 13, with one contact. -/
def pupil : Pupil := ⟨1001, 77, 2, 11, 7, [⟨9, .text⟩], 1⟩

/-- A part at a time of day 9, with plan 1 for every cohort, one pupil, whose AM mark is given, and
a window that derives slot 13 from card 77. -/
def school (st : DayState) (time : Nat) (am : Mark) : State :=
  { State.reset with
    clock := ⟨time, 9, 0, true⟩
    day := { State.reset.day with
      state := st, opened := some 9, plans := Vector.replicate 8 (some 1)
      register := if st = .closed then none else some 9
      closeTime := if st = .closing then some ⟨60000, 9⟩ else none }
    store :=
      { plans := State.reset.store.plans.set 0 ⟨3, some worked⟩
        cohorts := Vector.replicate 8 ⟨true, Vector.replicate 7 1, .absent⟩
        settings := { Settings.default with concern := 10 } }
    timetable := ⟨if st = .closed then [] else [buildTable 1 worked], none, none, []⟩
    pupils := ⟨[(13, some pupil)], (Vector.replicate 8 none).set 0 (some ⟨64, 63, 0⟩)⟩
    register := { State.reset.register with records := [(13, .reset am .blank)] } }

/-- The part with its register walker at a slot of a walk. -/
def walking (w : Walk) (cursor : Nat) (s : State) : State :=
  { s with register := { s.register with
    walker := { s.register.walker with hand := some w, cursor := cursor } } }

/-- The part with a change to slot 13's record. -/
def recorded (f : RegisterRecord → RegisterRecord) (s : State) : State :=
  { s with register := { s.register with records := [(13, f (recordAt s 13))] } }

/-- An outbound alert of slot 13. -/
def alert (handed : Option Handed) (contactIndex : Nat) : Outbound :=
  ⟨.alert, 13, ⟨true, false⟩, ⟨false, false⟩, false, contactIndex, 0, ⟨34000, 9⟩, 0, handed, none⟩

/-- The part with an outbound queue. -/
def queued (q : List Outbound) (s : State) : State :=
  { s with messages := { s.messages with outbound := q } }

/-! ### Well-formedness: each check refuses a term -/

theorem test_wf_time_octets :
    (Instr.setTime (fr 0) (256 ^ 3) 0 0).wellFormed = false := by decide
theorem test_wf_base_octet : (Instr.setTime (fr 0) 0 0 256).wellFormed = false := by decide
theorem test_wf_plan_list :
    (Instr.writePlan (fr 0) ⟨1, 520, 25,
      List.replicate 25 ⟨some .lesson, 1, 1, false, some .none, 0, .absent, 0⟩, some .none,
      0⟩).wellFormed = false := by decide
theorem test_wf_cohort_list :
    (Instr.writeCohorts (fr 0)
      (List.replicate 9 ⟨0, true, Vector.replicate 7 0, .absent⟩)).wellFormed = false := by decide
theorem test_wf_contact_list :
    (Instr.writePupil (fr 0) ⟨0, 1, 0, 0, 0, 0, List.replicate 4 ⟨1, some .text⟩, 0⟩).wellFormed
      = false := by decide
theorem test_wf_card : (Instr.signIn (fr 3) (.byCard (256 ^ 3) false)).wellFormed = false := by decide
theorem test_wf_tag : (Instr.messageResult (fr 4) 65536 none).wellFormed = false := by decide
theorem test_wf_timeout_tag : (Instr.handoverTimeout 0).wellFormed = false := by decide
theorem test_wf_route : (Instr.routeHoldExpiry 32).wellFormed = false := by decide
theorem test_wf_pass_plan : (Instr.recomputePassComplete 9).wellFormed = false := by decide
theorem test_wf_target : (Instr.portPark (fr 0) 256).wellFormed = false := by decide
/-- A sound header is no header fault. -/
theorem test_wf_header :
    (Instr.frameHeaderFault 3 ⟨0x30, 0x11, 4, 0xBA⟩).wellFormed = false := by decide
/-- A frame whose CRC agrees is no check fault. -/
theorem test_wf_check :
    (Instr.frameCheckFault 3 [0x30, 0x11, 0, 0xBE]
      (frameCrc [0x30, 0x11, 0, 0xBE])).wellFormed = false := by decide
/-- A kind of the table is not unknown. -/
theorem test_wf_kind : (Instr.unknownKindFrame 3 0x30 0).wellFormed = false := by decide
/-- A frame whose form does not suit may be anything, and is answered BAD_FIELD. -/
theorem test_wf_unsuited :
    (Instr.writeCohorts ⟨0, 7, false⟩
      (List.replicate 9 ⟨0, true, Vector.replicate 7 0, .absent⟩)).wellFormed = true := by decide

/-! ### Frames -/

/-- The check value of R161's CRC: 0x31 to 0x39 give 0xAEE7. -/
theorem test_crc :
    frameCrc [0x31, 0x32, 0x33, 0x34, 0x35, 0x36, 0x37, 0x38, 0x39] = 0xAEE7 := by decide
/-- "A kiosk on a noisy line": the header check of 0x30, 0x11, 4 is 186. -/
theorem test_header_check : headerCheck 0x30 0x11 4 = 186 := by decide
/-- "A kiosk on a noisy line": 0xBE in its place is a HEADER fault, and the port hunts. -/
theorem test_header_fault :
    (let t := after (.frameHeaderFault 3 ⟨0x30, 0x11, 4, 0xBE⟩) (after (.syncOctet 3) State.reset)
     ((t.port 3).faults.header, (t.port 3).discarded, (t.port 3).receive))
      = (true, 1, .hunting) := by decide
theorem test_length_fault :
    (let t := after (.frameHeaderFault 3 ⟨0, 0, 241, 14⟩) (after (.syncOctet 3) State.reset)
     ((t.port 3).faults.length, (t.port 3).faults.header)) = (true, false) := by decide
theorem test_check_fault :
    ((after (.frameCheckFault 3 [1, 0, 0, 254] 0) (after (.syncOctet 3) State.reset)).port
      3).faults.check = true := by decide
theorem test_gap :
    ((after (.receiveGapTimeout 3) (after (.syncOctet 3) State.reset)).port 3).faults.truncated
      = true := by decide
theorem test_overlap :
    ((after (.frameOverlap 3) (after (.readTime (fr 3)) State.reset)).port 3).faults.overlap
      = true := by decide
theorem test_unknown_kind :
    ((after (.unknownKindFrame 3 0x7F 9) State.reset).port 3).reply.map
      (fun r => (r.kind, r.tag, r.head.status)) = some (0xFF, 9, .unknownKind) := by decide
/-- A role that may not send a kind is answered REFUSED_ROLE (R163 check 2). -/
theorem test_role : said 3 (after (.setTime (fr 3) 0 0 0) State.reset)
    = some (.refusedRole, .empty) := by decide
theorem test_reply_complete :
    ((after (.replyComplete 0) (after (.readTime (fr 0)) State.reset)).port 0).service = .idle := by
  decide
theorem test_park : (let t := after (.portPark (fr 0) 3) State.reset
    ((t.port 3).state, t.powerEnable 3)) = (.parked, false) := by decide
theorem test_cycle :
    ((after (.portCycleEnd 3) (after (.portCycle (fr 0) 3) State.reset)).port 3).state = .active := by
  decide
theorem test_limit : said 0 (after (.setReplyLimit (fr 0) 7) State.reset)
    = some (.ok, .replyLimit 16) := by decide

/-! ### Clock, day and bells -/

/-- Midnight, and the day number that wraps (R1). -/
theorem test_midnight :
    (after (.secondEvent false) { State.reset with clock := ⟨86399, 65535, 0, true⟩ }).clock
      = ⟨0, 0, 0, true⟩ := by decide
theorem test_set_time : (after (.setTime (fr 0) 25100 812 3) State.reset).clock
    = ⟨25100, 812, 0, true⟩ := by decide
theorem test_no_clock : said 0 (after (.dayOpen (fr 0)) State.reset)
    = some (.noClock, .empty) := by decide
theorem test_day_open :
    (after (.dayOpen (fr 0)) { school .closed 25200 .none with
      day := State.reset.day }).register.walker.hand = some .openWalk := by decide
/-- The auto-open minute of the default settings is 420 (R27, R9). -/
theorem test_auto_open :
    (after (.secondEvent false) { school .closed 25199 .none with day := State.reset.day }).day.state
      = .opening := by decide
theorem test_day_close : (after (.dayClose (fr 1)) (school .open 54900 .blank)).day.state
    = .closing := by decide
theorem test_open_walk :
    markOf (after .openWalkVisit (walking .openWalk 13 (school .opening 25200 .present))) 13 .am
      = .blank := by decide
theorem test_open_complete :
    (after (.openWalkComplete []) (walking .openWalk 2048 (school .opening 31200 .blank))).day.state
      = .open := by decide
/-- A FINAL conversion sets no unexplained-since (R84, R97). -/
theorem test_close_walk :
    ((recordAt (after .closeWalkVisit (walking .closeWalk 13 (school .closing 60001 .blank)))
      13).am.mark,
     (recordAt (after .closeWalkVisit (walking .closeWalk 13 (school .closing 60001 .blank)))
      13).am.since) = (.unexplained, none) := by decide
theorem test_close_complete :
    (after (.closeWalkComplete [])
      (walking .closeWalk 2048 (school .closing 60001 .blank))).totals.termDays = 1 := by decide
/-- SHORT is 3 s, and a second request merges to CONTINUOUS with the longer time (R51). -/
theorem test_ring_merges :
    (let s := after (.ring (fr 1) 1 (some .short)) State.reset
     let s := after (.replyComplete 1) s
     (s.bells.lines[(0 : Zone)], (after (.ring (fr 1) 1 (some .long)) s).bells.lines[(0 : Zone)]))
      = (.sounding .short (patternLength .short) false,
         .sounding .continuous (patternLength .long) false) := by decide
theorem test_bell_expiry :
    (after (.bellCountExpiry 2) { State.reset with bells := { State.reset.bells with
      lines := State.reset.bells.lines.set 2 (.sounding .long 0 false) } }).bells.lines[(2 : Zone)]
      = .silent := by decide
theorem test_push : (after .pushAssert State.reset).bells.lines[(7 : Zone)]
    = .sounding .continuous 5 false := by decide
theorem test_push_release : (after .pushRelease (after .pushAssert State.reset)).bells.push
    = .released := by decide
theorem test_push_limit :
    (after .pushLimitExpiry { State.reset with bells := { State.reset.bells with
      push := .following 1 0
      lines := State.reset.bells.lines.set 0 (.sounding .continuous 0 true) } }).bells.push
      = .held := by decide
theorem test_alarm_silences :
    (after .alarmAssert (after .pushAssert State.reset)).bells.lines[(7 : Zone)] = .silent := by
  decide
theorem test_alarm_release : (after .alarmRelease (after .alarmAssert State.reset)).bells.alarm
    = false := by decide
theorem test_quiet_window :
    (after (.writeQuiet (fr 0) 7 (.clock 600 660 1)) State.reset).bells.quiet[(7 : Fin 8)]
      = .clock 600 660 1 := by decide

/-! ### Plans and the compression -/

/-- A plan as WRITE-PLAN carries it. -/
def written (start : Nat) (entries : List EntryReq) : PlanReq :=
  ⟨1, start, entries.length, entries, some .long, 0xFF⟩

/-- An entry of a kind, a length and a tag. -/
def carried (kind : EntryKind) (nominal floor : Nat) (tag : TagField) : EntryReq :=
  ⟨some kind, nominal, floor, true, some .none, 0, tag, 15⟩

theorem test_check_range :
    planCheck (written 520 [carried .registration 10 5 .absent]) = some (.range, some 0) := by decide
theorem test_check_second_pm :
    planCheck (written 520 [carried .registration 10 5 (.tag .am),
      carried .registration 10 5 (.tag .pm), carried .registration 10 5 (.tag .pm)])
      = some (.secondPm, some 2) := by decide
theorem test_check_floor :
    planCheck (written 520 [carried .lesson 10 11 .absent]) = some (.floor, some 0) := by decide
theorem test_check_second :
    planCheck (written 520 [carried .registration 10 5 (.tag .am),
      carried .registration 10 5 (.tag .am)]) = some (.secondAm, some 1) := by decide
theorem test_check_pm_alone :
    planCheck (written 520 [carried .registration 10 5 (.tag .pm)])
      = some (.pmWithoutAm, none) := by decide
theorem test_check_order :
    planCheck (written 520 [carried .registration 10 5 (.tag .pm),
      carried .registration 10 5 (.tag .am)]) = some (.pmBeforeAm, some 0) := by decide
theorem test_check_long :
    planCheck (written 900 [carried .lesson 180 5 .absent, carried .lesson 180 5 .absent,
      carried .lesson 121 5 .absent]) = some (.tooLong, none) := by decide
theorem test_write_plan :
    (after (.writePlan (fr 0) (written 520 [carried .lesson 10 5 .absent]))
      State.reset).store.plans[(0 : Fin 8)].revision = 1 := by decide
/-- "A delayed opening": the cuts of C = 45. -/
theorem test_cuts :
    cuts 45 [10, 15, 15, 5, 15, 10, 0, 15, 15] = [4, 7, 7, 2, 7, 4, 0, 7, 7] := by decide
/-- "A delayed opening": the starts and the end. -/
theorem test_delayed_opening :
    (let t := compress (buildTable 1 worked) 45 0
     (t.entries.map (·.start), t.effEnd))
      = ([565, 581, 634, 687, 705, 758, 799, 809, 862], 915) := by decide
/-- "An overrun": D = 120 leaves a shortfall of 20 and an end of 935. -/
theorem test_overrun :
    (let r := passResult (buildTable 1 worked) 120 0
     (r.figures.shortfall, r.figures.newEnd, r.table.shortTotal)) = (20, 935, 20) := by decide
theorem test_shift :
    said 1 (after (.shift (fr 1) ⟨[2], 10, 0⟩) (school .open 27000 .blank))
      = some (.ok, .shifted [⟨2, false, 0, 0, 0, 0, 0, 0, 0, 0, 0⟩]) := by decide
/-- A SHIFT, its pass and its swap: the AM close follows its entry (R42). -/
theorem test_swap :
    (let s := after (.shift (fr 1) ⟨[1], 45, 0⟩) (school .open 27000 .blank)
     let s := after .swap (after (.recomputePassComplete 1) s)
     (tableOf s 1).bind (·.closeMinute .am)) = some 580 := by decide
theorem test_read_timetable :
    said 2 (after (.readTimetable (fr 2) 2 0) (school .open 27000 .blank))
      = some (.notFound, .empty) := by decide
theorem test_write_cohorts :
    (after (.writeCohorts (fr 0) [⟨3, true, Vector.replicate 7 8, .plan 2⟩])
      State.reset).store.cohorts[(3 : Fin 8)].override = .plan 2 := by decide
theorem test_write_settings :
    (after (.writeSettings (fr 0) ⟨420, 1080, 0, some .timed, 31, 1, 0, false⟩)
      State.reset).store.settings.pushLength = 30 := by decide
theorem test_read_plan :
    said 0 (after (.readPlan (fr 0) (.plan 9) 0) State.reset) = some (.badField, .empty) := by decide

/-! ### Pupils and cards -/

/-- The windows of "Worked card windows". -/
def batches : Vector (Option CardWindow) 8 :=
  #v[some ⟨5242887, 0, 291⟩, some ⟨4719592, 0, 1315⟩, some ⟨4718592, 1023, 0⟩,
    some ⟨4719616, 1023, 1024⟩, none, none, none, none]

/-- "Worked card windows": the window used and the slot derived. -/
theorem test_card_windows :
    ([5242887, 4718883, 4719592, 4719907, 4720000, 6000000].map fun card =>
      (windowUsed batches card).map fun u => (u.1, u.2.derive card))
      = [some (0, 291), some (2, 291), some (1, 1315), some (3, 1315), some (3, 1408), none] := by
  decide
theorem test_write_window :
    (after (.writeWindow (fr 0) 2 (some ⟨1, 0, 5⟩)) State.reset).pupils.windows[(2 : Fin 8)]
      = some ⟨1, 0, 5⟩ := by decide
theorem test_write_pupil :
    pupilAt (after (.writePupil (fr 0) ⟨13, 1001, 77, 2, 11, 7, [⟨9, some .text⟩], 1⟩) State.reset)
      13 = some pupil := by decide
theorem test_duplicate :
    said 0 (after (.writePupil (fr 0) ⟨14, 1001, 0, 2, 11, 7, [], 1⟩) (school .closed 0 .none))
      = some (.duplicate, .slotHeld 13) := by decide
theorem test_clear_pupil :
    pupilAt (after (.clearPupil (fr 0) 13 1001) (school .closed 0 .none)) 13 = none := by decide
theorem test_read_pupil :
    said 0 (after (.readPupil (fr 0) (.card 78)) (school .open 0 .none))
      = some (.notFound, .card (.mismatch 0 14) none) := by decide

/-! ### The register, arrivals and walks -/

theorem test_mark :
    markOf (after (.mark (fr 2) ⟨1001, some .am, some .present, none⟩) (school .open 31500 .blank)) 13
      .am = .present := by decide
/-- A TEACHER mark onto LATE is held (R81). -/
theorem test_mark_held :
    (said 2 (after (.mark (fr 2) ⟨1001, some .am, some .present, none⟩)
      (school .open 31500 .late))).map (·.1) = some .held := by decide
theorem test_group_mark :
    (after (.groupMark (fr 1) ⟨1, 4, ⟨true, false⟩, some .offsite⟩)
      (school .open 31500 .blank)).register.group.state = .running := by decide
theorem test_session_sweep :
    (let s := school .open 32100 .notSeen
     let t := after .sessionSweepVisit (walking (.item (.session ⟨1, .am, ⟨32100, 9⟩⟩)) 13 s)
     (markOf t 13 .am, t.wires.toMessages)) = (.unexplained, [.raise 13 1001 .am]) := by decide
theorem test_route_sweep :
    (let s := school .open 32100 .blank
     let s := { s with register := { s.register with
       closed := s.register.closed.set 0 ⟨true, false⟩ } }
     let t := after .routeSweepVisit (walking (.item (.route ⟨0x80, ⟨32100, 9⟩⟩)) 13 s)
     (markOf t 13 .am, markOf t 13 .pm)) = (.unexplained, .blank) := by decide
theorem test_group_walk :
    (let i : GroupItem := ⟨⟨1, 4, ⟨true, true⟩, .offsite⟩, ⟨31500, 9⟩⟩
     let t := after .groupWalkVisit (walking (.item (.group i)) 13 (school .open 31500 .present))
     (markOf t 13 .am, markOf t 13 .pm, t.register.group.applied, t.register.group.held))
      = (.present, .offsite, 1, 1) := by decide
theorem test_walk_complete :
    (after .walkComplete (walking (.item (.session ⟨1, .am, ⟨32100, 9⟩⟩)) 2048
      (school .open 32100 .blank))).register.walker.hand = none := by decide
theorem test_read_register :
    said 0 (after (.readRegister (fr 0) (.slot 2048)) (school .open 32100 .blank))
      = some (.badField, .empty) := by decide
/-- A change onto a mark that was not BLANK is in the next READ-CHANGES (R92, R94). -/
theorem test_read_changes :
    (let s := after (.mark (fr 1) ⟨1001, some .am, some .late, none⟩) (school .open 31500 .present)
     said 0 (after (.readChanges (fr 0)) s))
      = some (.ok, .changes ⟨0, 1⟩ [⟨13, .am, .present, .late, .desk, ⟨31500, 9⟩⟩]) := by decide
/-- "Worked sign-ins": 740 s past the threshold is 13 minutes, and LATE before the close. -/
theorem test_sign_in_late :
    (let t := after (.signIn (fr 3) (.byCard 77 false)) (school .open 31940 .blank)
     ((recordAt t 13).am.mark, (recordAt t 13).minutesLate, t.wires.lateness))
      = (.late, some 13, [⟨13, 1001, true, 13⟩]) := by decide
/-- "Worked sign-ins": 1625 s past it, at or after the close, is 28 minutes and LATE_CLOSED. -/
theorem test_sign_in_closed :
    (let t := after (.signIn (fr 1) (.byReference 1001)) (school .open 32825 .blank)
     ((recordAt t 13).am.mark, (recordAt t 13).minutesLate, (recordAt t 13).confirmed))
      = (.lateClosed, some 28, false) := by decide
theorem test_sign_out :
    (let t := after (.signOut (fr 1) ⟨1001, some .family, false⟩) (school .open 33000 .present)
     ((recordAt t 13).presence, markOf t 13 .am, markOf t 13 .pm))
      = (.offSite, .present, .authorised) := by decide
/-- "Extending a late bus": the expiry is capped two hours after the declaration. -/
theorem test_route_hold :
    (let s := after (.routeHold (fr 1) ⟨7, 40⟩) (school .open 34200 .blank)
     let s := after (.replyComplete 1) { s with clock := ⟨36300, 9, 0, true⟩ }
     holdAt (after (.routeHold (fr 1) ⟨7, 90⟩) s) 7) = some ⟨⟨34200, 9⟩, ⟨41400, 9⟩⟩ := by decide
theorem test_hold_expiry :
    (let s := after (.routeHold (fr 1) ⟨7, 40⟩) (school .open 34200 .blank)
     let t := after (.routeHoldExpiry 7) { s with clock := ⟨36600, 9, 0, true⟩ }
     (holdAt t 7, t.register.walker.hand))
      = (none, some (.item (.route ⟨0x80, ⟨36600, 9⟩⟩))) := by decide

/-! ### Messages -/

/-- A NOTICE from a contact for the day, as the gateway sends it. -/
def asked (contact : BitVec 16) (last : DayNumber) : NoticeReq :=
  ⟨1001, contact, some .absent, 3, ⟨true, false⟩, false, 9, last⟩

theorem test_notice_applied :
    markOf (after (.notice (fr 4) (asked 9 9)) (school .open 31000 .blank)) 13 .am = .notified := by
  decide
theorem test_notice_unverified :
    (callOf (after (.notice (fr 4) (asked 8 9)) (school .open 31000 .blank)) 13).map
      (·.reasons.noticeUnverified) = some true := by decide
theorem test_confirm_notice :
    (let s := after (.notice (fr 4) (asked 8 9)) (school .open 31000 .blank)
     let t := after (.confirmNotice (fr 1) 13 false) s
     (markOf t 13 .am, callOf t 13)) = (.notified, none) := by decide
theorem test_raise :
    (let s := school .open 34000 .unexplained
     (after .raiseAlert { s with wires := { s.wires with
       toMessages := [.raise 13 1001 .am] } }).messages.outbound)
      = [alert none 0] := by decide
/-- A leave withdraws a QUEUED alert whose only session it was (R134). -/
theorem test_leave :
    (let s := queued [alert none 0] (school .open 34000 .late)
     let t := after .leaveUnexplained { s with wires := { s.wires with
       toMessages := [.leave 13 1001 .am .late] } }
     (t.messages.outbound, alertNow t 13)) = ([], .withdrawn) := by decide
theorem test_report :
    (let s := school .open 34000 .unexplained
     (recordAt (after .alertStateReport { s with wires := { s.wires with
       reports := [⟨13, 1001, .queued⟩] } }) 13).alert) = .queued := by decide
theorem test_take_message :
    (let t := after (.takeMessage (fr 4)) (queued [alert none 0] (school .open 34100 .unexplained))
     (t.messages.tagCounter, (t.messages.outbound.map (·.attempts)))) = (2, [1]) := by decide
theorem test_message_result :
    (let s := queued [alert (some ⟨1, ⟨34100, 9⟩, false⟩) 0] (school .open 34200 .unexplained)
     alertNow (after (.messageResult (fr 4) 1 (some .noAnswer)) s) 13) = .exhausted := by decide
/-- At 900 s the hand-over times out and its entry is QUEUED again (R139). -/
theorem test_timeout :
    (let s := queued [alert (some ⟨1, ⟨34100, 9⟩, false⟩) 0] (school .open 35000 .unexplained)
     let t := after (.handoverTimeout 1) s
     (t.messages.outbound, t.attn)) = ([alert none 0], true) := by decide
theorem test_standing :
    (let s := after (.notice (fr 4) (asked 9 12)) (school .open 31000 .blank)
     (after (.cancelStanding (fr 0) 1001) s).messages.standing) = [] := by decide
theorem test_read_standing :
    said 0 (after (.readStanding (fr 0) 64) State.reset) = some (.badField, .empty) := by decide
theorem test_call_add :
    (let s := school .open 34000 .blank
     (callOf (after (.callListAdd .termAccumulators) { s with wires := { s.wires with
       concern := [⟨13, 1001⟩] } }) 13).map (·.firstTime)) = some ⟨34000, 9⟩ := by decide
theorem test_clear_call :
    said 1 (after (.clearCall (fr 1) 13) State.reset) = some (.notFound, .empty) := by decide
theorem test_read_calls :
    said 1 (after (.readCalls (fr 1) 96) State.reset) = some (.badField, .empty) := by decide

/-! ### Totals, roll and faults -/

/-- An unconfirmed lateness adds to the late count alone (R147). -/
theorem test_lateness :
    (let s := school .open 34000 .late
     let r := totalsAt (after .latenessAccrual { s with wires := { s.wires with
       lateness := [⟨13, 1001, false, 28⟩] } }) 13
     (r.late, r.timedLate, r.lateMinutes)) = (1, 0, 0) := by decide
theorem test_open_minutes :
    (let s := school .open 34000 .late
     (totalsAt (after .openMinutesAccrual { s with wires := { s.wires with
       toAccumulators := [.openMinutes 13 1001 41] } }) 13).openMinutes) = 41 := by decide
/-- Worked fold of slot 1802: 8 unexplained and two more cross a threshold of 10. -/
theorem test_fold :
    (let s := school .closing 60000 .unexplained
     let s := { s with totals := ⟨[(13, { zeroAccumulator with unexplained := 8 })], 0⟩ }
     let t := after .fold { s with wires := { s.wires with
       toAccumulators := [.fold 13 1001 9 .unexplained .unexplained] } }
     ((totalsAt t 13).unexplained, (totalsAt t 13).possible, t.wires.concern))
      = (10, 2, [⟨13, 1001⟩]) := by decide
theorem test_read_totals :
    said 0 (after (.readTotals (fr 0) (.list 0 (some 256)))
        { State.reset with totals := ⟨[], 190⟩ })
      = some (.badField, .totalsRefused ⟨190, 0, false⟩) := by decide
theorem test_term_reset :
    said 0 (after (.termReset (fr 0)) { State.reset with totals := ⟨[], 190⟩ })
      = some (.ok, .termDays 190) := by decide
theorem test_roll_visit :
    (let s := recorded (fun r => { r with presence := .onSite }) (school .open 40000 .present)
     (after .rollBuildVisit { s with roll := ⟨true, .building 13, []⟩ }).roll.entries)
      = [⟨13, 2, 11, false, false, false⟩] := by decide
theorem test_roll_complete :
    (after .rollBuildComplete { State.reset with roll := ⟨true, .building 2048, []⟩ }).roll.state
      = .active := by decide
theorem test_presence :
    (let s := { school .open 40000 .present with
       roll := ⟨true, .active, [⟨13, 2, 11, false, false, false⟩]⟩ }
     (after .presenceChange { s with wires := { s.wires with
       toRoll := [⟨13, .offSite⟩] } }).roll.entries) = [⟨13, 2, 11, false, false, true⟩] := by
  decide
theorem test_account :
    said 1 (after (.account (fr 1) (.tutor 11)) { school .open 40000 .present with
      roll := ⟨true, .active, [⟨13, 2, 11, false, false, false⟩]⟩ })
      = some (.ok, .accounted 1 0) := by decide
theorem test_roll_close :
    said 1 (after (.rollClose (fr 1)) { State.reset with roll := ⟨true, .active, []⟩ })
      = some (.busy, .empty) := by decide
/-- "A found card": a mismatch is captured with its slot, its port and its time. -/
theorem test_found_card :
    (after (.signIn (fr 3) (.byCard 78 false)) (school .open 37215 .blank)).link.fault
      = some ⟨.cardMismatch, some 3, some (.slot 14), ⟨37215, 9⟩⟩ := by decide
theorem test_clear_faults :
    (after (.clearFaults (fr 0))
      (after (.signIn (fr 3) (.byCard 78 false)) (school .open 37215 .blank))).attn = false := by
  decide
theorem test_restart :
    (let s := after (.replyComplete 0) (after (.restart (fr 0)) (school .open 37215 .blank))
     let t := after .restartEffect s
     (t.day.state, t.clock.time, pupilAt t 13)) = (.closed, 37215, some pupil) := by decide
/-- Power-on reset with RETAIN_OK low clears what is retained (R17, R77). -/
theorem test_power_on :
    (let t := after (.powerOnReset resetStraps false) (school .open 37215 .blank)
     (t.clock.valid, pupilAt t 13, t.store.settings.concern)) = (false, none, 0) := by decide

/-! ### Witnesses: a state and operands that meet the hypotheses of each statement -/

theorem witness_StepRunsTheFrontCommand : State.reset.pending = [] := by decide

/-- The part with RESET_N low. -/
def asleep : State := after .resetNLow State.reset

theorem witness_ResetLowTakesNothing :
    asleep.lines.resetN = false
      ∧ (∀ straps retainOk, Instr.secondEvent true ≠ .powerOnReset straps retainOk)
      ∧ State.reset.lines.resetN = true :=
  ⟨by decide, fun _ _ h => (by cases h), rfl⟩

/-- R49: a PULSED line is high at 5, 3 and 1 seconds left and low at 4 and 2. -/
theorem test_pulsed_level :
    ([5, 4, 3, 2, 1].map fun n =>
        ({ State.reset with bells := { State.reset.bells with
          lines := Vector.replicate 8 (.sounding .pulsed n false) } } : State).bell 3)
      = [true, false, true, false, true] := by decide

/-- A part whose RESTART reply has left. -/
def due : State := after (.replyComplete 0) (after (.restart (fr 0)) State.reset)

theorem witness_RestartKeepsClockRolesAndRetained :
    due.lines.resetN = true ∧ due.link.restartDue = true := by decide

theorem witness_RestartIsDueOnceItsReplyHasLeft :
    Ready State.reset (fr 0) .restart
      ∧ (after (.restart (fr 0)) State.reset).lines.resetN = true
      ∧ (((after (.restart (fr 0)) State.reset).port 0).reply.map fun r =>
          (r.kind, r.head.status)) = some (0x85, .ok)
      ∧ ((after (.readTime (fr 5)) State.reset).port 5).reply.isSome = true := by
  unfold Ready; decide

theorem witness_RolesChangeOnlyAtPowerOnReset :
    (∀ straps retainOk, Instr.resetNLow ≠ .powerOnReset straps retainOk)
      ∧ exec .resetNLow State.reset = .next asleep :=
  ⟨(fun _ _ h => by cases h), rfl⟩

/-- A part in the middle of a day, with a command waiting. -/
def midday : State := { school .open 31500 .present with pending := [.resetNLow] }

theorem midday_clock : midday.clock.inRange := by unfold Clock.inRange; decide

theorem worked_sound : worked.sound := by
  refine ⟨by decide, by decide, by decide, by decide, ?_, by decide, by decide, by decide,
    by decide⟩
  intro e he
  simp only [worked, List.mem_cons, List.not_mem_nil, or_false] at he
  rcases he with rfl | rfl | rfl | rfl | rfl | rfl | rfl | rfl | rfl <;>
    simp [Entry.sound]

theorem midday_store : midday.store.sound := by
  refine ⟨fun n => ⟨?_, ?_⟩, fun c => ⟨?_, ?_⟩, ?_⟩
  · revert n; decide
  · intro b hb
    have h : ∀ n : Fin 8, midday.store.plans[n].body = none
        ∨ midday.store.plans[n].body = some worked := by decide
    rcases h n with h | h
    · rw [h] at hb; cases hb
    · rw [h] at hb; cases hb; exact worked_sound
  · revert c; decide
  · intro n hn
    have h : ∀ c : Fin 8, midday.store.cohorts[c].override = .absent := by decide
    rw [h c] at hn; cases hn
  · unfold Settings.sound; decide

theorem midday_pupils : midday.pupils.sound := by
  refine ⟨by decide, ?_, ?_, ?_⟩
  · intro k r h
    have e : (k, some r) = (13, some pupil) := List.mem_singleton.1 h
    cases e
    unfold Pupil.inRange; decide
  · intro k l r q h g _
    have h1 : k = 13 := congrArg Prod.fst (List.mem_singleton.1 h)
    have h2 : l = 13 := congrArg Prod.fst (List.mem_singleton.1 g)
    rw [h1, h2]
  · intro k l r q h g _ _
    have h1 : k = 13 := congrArg Prod.fst (List.mem_singleton.1 h)
    have h2 : l = 13 := congrArg Prod.fst (List.mem_singleton.1 g)
    rw [h1, h2]

theorem worked_laid : laidFrom 520 (buildTable 1 worked).entries := by
  simp [laidFrom, buildTable, layEntries, worked]

theorem midday_timetable : midday.timetable.sound := by
  refine ⟨by decide, ?_, ?_⟩
  · intro u hu
    have : u = buildTable 1 worked := List.mem_singleton.1 hu
    subst this
    exact ⟨520, by decide, worked_laid, by decide⟩
  · intro c hc; cases hc

theorem midday_canonical : midday.canonical := by unfold State.canonical; decide

theorem witness_EveryStepKeepsTheClockInRange :
    midday.clock.inRange ∧ step midday = .next (after .resetNLow { midday with pending := [] }) :=
  ⟨midday_clock, rfl⟩

theorem witness_EveryStepKeepsThePlanStoreSound :
    midday.store.sound ∧ step midday = .next (after .resetNLow { midday with pending := [] }) :=
  ⟨midday_store, rfl⟩

theorem witness_EveryStepKeepsPupilsDistinct :
    midday.pupils.sound ∧ step midday = .next (after .resetNLow { midday with pending := [] }) :=
  ⟨midday_pupils, rfl⟩

theorem witness_EveryStepKeepsBellsSilentInAlarm :
    (after .alarmAssert midday).bells.alarm = true ∧ (after .alarmAssert midday).bells.quietInAlarm
      ∧ step (after .alarmAssert midday)
        = .next (after .resetNLow { after .alarmAssert midday with pending := [] }) := by
  refine ⟨by decide, ?_, rfl⟩
  intro _
  refine ⟨by decide, ?_⟩
  intro zones limit h
  cases h

theorem witness_EveryStepKeepsSlotTablesCanonical :
    midday.pupils.sound ∧ midday.canonical
      ∧ step midday = .next (after .resetNLow { midday with pending := [] }) :=
  ⟨midday_pupils, midday_canonical, rfl⟩

theorem witness_EveryStepKeepsTablesLaid :
    midday.store.sound ∧ midday.timetable.sound ∧ midday.recomputesInOpen
      ∧ step midday = .next (after .resetNLow { midday with pending := [] }) :=
  ⟨midday_store, midday_timetable, ⟨fun _ => rfl, fun _ h => (by cases h)⟩, rfl⟩

/-- A second before the auto-open minute in CLOSED, before the auto-close minute in OPENING and in OPEN,
and before the AM registration's start and its close in OPEN. -/
theorem witness_SecondEventAdvancesTheClock :
    (let s := { school .closed 25199 .none with day := .reset }
     let c : Clock := ⟨25200, 9, 0, true⟩
     s.lines.resetN = true ∧ s.arrivals.holds = [] ∧ (∀ e ∈ s.messages.outbound, e.handed = none)
       ∧ 25199 + 1 = 60 * 420 ∧ s.day.state = .closed ∧ 420 = s.store.settings.autoOpen
       ∧ 420 ≠ s.store.settings.autoClose ∧ c.valid = true ∧ s.day.opened ≠ some c.day
       ∧ ∃ k : Fin 8, planForDay s.store c.day k ≠ none)
      ∧ 64799 + 1 = 60 * (school .opening 64799 .blank).store.settings.autoClose
      ∧ runningMinute (school .open 64799 .blank) 1080 9 = some 1080
      ∧ (let s := school .open 31199 .blank
         31199 + 1 = 60 * 520 ∧ 520 ≠ s.store.settings.autoClose
           ∧ runningMinute s 520 9 = some 520 ∧ (s.timetable.tables.map (·.plan)).Nodup
           ∧ (∀ u ∈ s.timetable.tables, 1 ≤ u.plan ∧ u.plan ≤ 8)
           ∧ s.bells.alarm = false ∧ (∀ n : Fin 8, s.bells.quiet[n] = .empty)
           ∧ tableOf s 1 = some (buildTable 1 worked)
           ∧ (∃ e ∈ (buildTable 1 worked).entries, e.begun = false ∧ e.start ≤ 520
              ∧ e.entry.pattern ≠ .none ∧ e.entry.zones.getLsbD 7 = true)
           ∧ ((buildTable 1 worked).registration .am).map (fun e => (e.begun, e.start))
              = some (false, 520)
           ∧ ((buildTable 1 worked).session .am).map (·.raised) = some false
           ∧ 32099 + 1 = 60 * 535 ∧ (buildTable 1 worked).closeMinute .am = some 535) := by
  decide

/-- Minute 520 with a CLOCK window on Z7 that ends at 521: e0 asks for Z0 and Z7, and Z7 is covered. -/
theorem witness_SecondEventAdvancesTheClock_bells :
    (let s := school .open 31199 .blank
     let w : QuietWindow := .clock 520 521 0x80
     let q := { s with bells := { s.bells with quiet := s.bells.quiet.set 0 w } }
     (∀ z : Zone, BellAsked s s 520 z) ∧ (∀ n : Fin 8, ¬ QuietAt s 520 0 s.bells.quiet[n])
       ∧ QuietAt q 520 7 q.bells.quiet[(0 : Fin 8)]
       ∧ (after (.secondEvent true) q).bells.lines[7] = .silent
       ∧ (after (.secondEvent true) q).bells.lines[0] = .sounding .long 8 false) := by
  refine ⟨fun z => .inl ⟨buildTable 1 worked, by decide, ⟨_, 520, 20, false⟩,
      List.mem_cons_self, rfl, by decide, by decide, ?_⟩, fun n => ?_, show 520 ≤ 520 % 1440 ∧ 520 % 1440 < 521 ∧ (0x80 : EightSet).getLsbD 7 = true by decide,
    by decide, by decide⟩
  · revert z; decide
  · rw [show (school .open 31199 .blank).bells.quiet[n] = .empty by revert n; decide]
    exact id

/-- R46: an entry whose new start is the current minute begins late at a swap, and in time at its
minute event. -/
theorem test_late_at_swap :
    ((buildTable 1 worked).starts true 520, (buildTable 1 worked).starts false 520).map
        (·.map (·.late)) (·.map (·.late)) = ([true], [false]) := by decide

/-- R33: a minute event in CLOSING is the current minute too. -/
theorem test_closing_minute :
    (after (.secondEvent true) (school .closing 60059 .late)).timetable.current = some 1001 := by
  decide

/-- R74: the NOT_FOUND reply is formed before its fault is reported. -/
theorem test_unmatched_reply_first :
    (let t := after (.signIn (fr 3) (.byCard 128 false)) (school .open 31500 .blank)
     ((t.port 3).reply.map (·.head.faultValid), t.link.fault.map (·.kind)))
      = (some false, some .unknownCard) := by decide

/-- R20: a floor that is not compressible is replaced, and the write adjusted, though it was the
length. -/
theorem test_floor_adjusted :
    (EntryReq.mk (some .lesson) 10 10 false (some .none) 0 .absent 0).adjusted = true := by decide

/-- The part at the last second before midnight but one. -/
def late : State := { State.reset with clock := ⟨86398, 9, 0, true⟩ }

/-- Bell lines at 0 with and without follow, and a followed push at its limit. -/
def ringing (limit : Nat) : State :=
  { State.reset with bells := { State.reset.bells with
      push := .following 1 limit
      lines := (State.reset.bells.lines.set 0 (.sounding .continuous 0 true)).set 3
        (.sounding .long 0 false) } }

/-- A part whose lines sound with and without follow, and whose push is followed. -/
theorem witness_QuietSecondCountsTheBells_sounding :
    (ringing 1).lines.resetN = true ∧ (ringing 1).arrivals.holds = []
      ∧ (∀ e ∈ (ringing 1).messages.outbound, e.handed = none)
      ∧ (ringing 1).clock.time + 1 < 86400 ∧ ((ringing 1).clock.time + 1) % 60 ≠ 0
      ∧ (∀ zones, (ringing 1).bells.push ≠ .following zones 0)
      ∧ (ringing 1).bells.push = .following 1 (0 + 1)
      ∧ (ringing 1).bells.lines[(0 : Zone)] = .sounding .continuous 0 true
      ∧ (ringing 1).bells.lines[(3 : Zone)] = .sounding .long 0 false
      ∧ (after (.ring (fr 1) 2 (some .short)) (ringing 1)).bells.lines[(1 : Zone)]
        = .sounding .short 3 false :=
  ⟨by decide, by decide, by decide, by decide, by decide, (fun _ h => by cases h), by decide,
    by decide, by decide, by decide⟩

theorem witness_QuietSecondCountsTheBells :
    late.lines.resetN = true ∧ late.arrivals.holds = []
      ∧ (∀ e ∈ late.messages.outbound, e.handed = none) ∧ late.clock.time + 1 < 86400
      ∧ (late.clock.time + 1) % 60 ≠ 0 ∧ ∀ zones, late.bells.push ≠ .following zones 0 :=
  ⟨by decide, by decide, by decide, by decide, by decide, fun _ h => by cases h⟩

theorem witness_ReadTimeReturnsTheClock :
    Ready State.reset (fr 5) .readTime ∧ Role.gateway ≠ .none := by unfold Ready; decide

/-- BAD_FIELD at 86400 and at base 7; BUSY at a step of 121 seconds; taken in CLOSED with a clock that
is not valid. -/
theorem witness_SetTimeSetsTheClock :
    Ready State.reset (fr 0) .setTime ∧ 86399 < 86400 ∧ 6 < 7
      ∧ Ready (school .open 1000 .blank) (fr 0) .setTime
      ∧ (school .open 1000 .blank).day.state ≠ .closed
      ∧ 120 < stampDiff ⟨1121, 9⟩ ⟨1000, 9⟩ ∧ stampDiff ⟨879, 9⟩ ⟨1000, 9⟩ < -120
      ∧ State.reset.day.state = .closed ∧ State.reset.clock.valid = false
      ∧ State.reset.arrivals.holds = []
      ∧ ∀ e ∈ State.reset.messages.outbound, e.handed = none := by
  unfold Ready; decide

/-- Steps of a valid clock: over the first start, onto the same second, back a minute, over the
auto-open, the auto-close in OPENING and in OPEN, and past 120 seconds in CLOSED. -/
theorem witness_SetTimeSetsTheClock_valid :
    (let s := school .open 31150 .blank
     Ready s (fr 0) .setTime ∧ s.clock.valid = true ∧ s.arrivals.holds = []
       ∧ (∀ e ∈ s.messages.outbound, e.handed = none) ∧ s.store.settings.weekdayBase = 0
       ∧ stampDiff ⟨31210, 9⟩ ⟨31150, 9⟩ = 60
       ∧ (9 * 86400 + 31150 + 60) / 60 - (9 * 86400 + 31150) / 60 = 1
       ∧ runningMinute s (31210 / 60) 9 = some 520 ∧ 520 ≠ s.store.settings.autoClose
       ∧ (s.timetable.tables.map (·.plan)).Nodup ∧ tableOf s 1 = some (buildTable 1 worked)
       ∧ stampDiff ⟨31150, 9⟩ ⟨31150, 9⟩ = 0 ∧ stampDiff ⟨31090, 9⟩ ⟨31150, 9⟩ = -60)
      ∧ (let s := { school .closed 25190 .none with day := .reset }
         Ready s (fr 0) .setTime ∧ s.day.state = .closed ∧ s.day.opened ≠ some 9
           ∧ stampDiff ⟨25210, 9⟩ ⟨25190, 9⟩ = 20 ∧ 120 < stampDiff ⟨25400, 9⟩ ⟨25190, 9⟩
           ∧ (9 * 86400 + 25190) / 60 < 9 * 1440 + 420
           ∧ 9 * 1440 + 420 ≤ (9 * 86400 + 25210) / 60 ∧ s.store.settings.autoOpen = 420
           ∧ ∃ c : Fin 8, planForDay s.store 9 c ≠ none)
      ∧ Ready (school .opening 64790 .blank) (fr 0) .setTime
      ∧ Ready (school .open 64790 .blank) (fr 0) .setTime
      ∧ stampDiff ⟨64810, 9⟩ ⟨64790, 9⟩ = 20 ∧ (9 * 86400 + 64790) / 60 < 9 * 1440 + 1080
      ∧ 9 * 1440 + 1080 ≤ (9 * 86400 + 64810) / 60
      ∧ (school .open 64790 .blank).store.settings.autoClose = 1080 := by
  unfold Ready; decide

theorem witness_BellExpiriesSilenceTheirLines :
    (ringing 0).lines.resetN = true ∧ (ringing 0).bells.lines[(3 : Zone)] = .sounding .long 0 false
      ∧ (∀ k, (ringing 0).bells.lines[(1 : Zone)] ≠ .sounding k 0 false)
      ∧ (ringing 0).bells.push = .following 1 0 ∧ (∀ zones, (ringing 1).bells.push
          ≠ .following zones 0) :=
  ⟨by decide, by decide, (fun _ h => by cases h), by decide, (fun _ h => by cases h)⟩

theorem witness_RingStartsAndMergesLines :
    Ready (ringing 1) (fr 1) .ring ∧ (1 : EightSet) ≠ 0
      ∧ (some BellPattern.pulsed = some .pulsed ∧ LinePattern.pulsed = .pulsed ∧ 5 = 5)
      ∧ (ringing 1).bells.alarm = false
      ∧ Ready (after .alarmAssert (ringing 1)) (fr 1) .ring
      ∧ (after .alarmAssert (ringing 1)).bells.alarm = true := by
  unfold Ready; decide

theorem witness_PushRingsByItsMode :
    State.reset.bells.push = .released ∧ State.reset.bells.alarm = false
      ∧ State.reset.store.settings.pushMode = .timed
      ∧ (after .alarmAssert State.reset).bells.push = .released
      ∧ (after .alarmAssert State.reset).bells.alarm = true
      ∧ (ringing 1).bells.push = .following 1 1
      ∧ (after .pushAssert State.reset).bells.push = .held := by decide

theorem witness_AlarmSilencesBellsAndMovesTheRoll :
    midday.lines.resetN = true ∧ midday.roll.alarm = false ∧ midday.roll.state = .idle
      ∧ midday.day.state = .open
      ∧ (let s := { midday with roll := ⟨true, .active, []⟩ }
         s.roll.alarm = true ∧ s.roll.state = .active
           ∧ s.register.walker.waiting = [] ∧ s.register.walker.hand = none)
      ∧ (let s := { midday with register := { midday.register with
            walker := { midday.register.walker with sessions := [⟨1, .am, ⟨32100, 9⟩⟩] } } }
         s.register.walker.hand = none
           ∧ firstBy WalkItem.before s.register.walker.waiting
             = some (.session ⟨1, .am, ⟨32100, 9⟩⟩)) := by decide

/-- Windows at the ends of their ranges, taken and not. -/
theorem witness_WriteQuietReplacesItsWindow :
    Ready State.reset (fr 0) .writeQuiet ∧ (7 : Nat) = (7 : Fin 8) ∧ 1438 < 1439 ∧ 1439 ≤ 1439
      ∧ (1 : EightSet) ≠ 0 ∧ 1 ≤ 8 ∧ 8 ≤ 8 ∧ 23 ≤ 23 ∧ 7 < 8 ∧ 1439 < 1440 ∧ 23 < 24
      ∧ (tableOf midday 1 = some (buildTable 1 worked) ∧ tableOf midday 2 = none
        ∧ (buildTable 1 worked).entries.length = 9
        ∧ quietItem midday (.anchored 1 1 2 4) = ⟨.anchored 1 1 2 4, .span 540 660⟩) := by
  unfold Ready; decide

/-- R24: a today-override of an invalid plan gives no plan, and of a disabled cohort none is made. -/
theorem witness_DayOpenTakesAnOpening_plans :
    (let store := midday.store
     let c := store.cohorts[0]
     ChoosesPlan store 9 0 1 ∧ planForDay store 9 0 = some 1
       ∧ planForDay { store with cohorts := store.cohorts.set 0 { c with override := .plan 2 } } 9 0
         = none
       ∧ planForDay { store with cohorts := store.cohorts.set 0 { c with enabled := false } } 9 0
         = none
       ∧ planBody store 1 = some worked) := by
  refine ⟨⟨by decide, .inr ⟨by decide, ⟨_, Nat.mod_lt _ (by decide)⟩, rfl, by decide⟩,
    ⟨0, rfl, by decide⟩⟩, by decide, by decide, by decide, by decide⟩

theorem witness_DayOpenTakesAnOpening :
    Ready midday (fr 1) .dayOpen ∧ midday.day.state ≠ .closed
      ∧ Ready State.reset (fr 1) .dayOpen ∧ State.reset.clock.valid = false
      ∧ (let s := school .closed 25200 .none
         Ready s (fr 1) .dayOpen ∧ s.day.state = .closed ∧ s.clock.valid = true
           ∧ s.day.opened = some s.clock.day)
      ∧ (let s := { school .closed 25200 .none with day := .reset }
         Ready s (fr 1) .dayOpen ∧ s.day.state = .closed ∧ s.clock.valid = true
           ∧ s.day.opened ≠ some s.clock.day
           ∧ ∃ c : Fin 8, planForDay s.store s.clock.day c ≠ none)
      ∧ (let s := { State.reset with clock := ⟨25200, 9, 0, true⟩ }
         Ready s (fr 1) .dayOpen ∧ s.day.state = .closed ∧ s.clock.valid = true
           ∧ s.day.opened ≠ some s.clock.day
           ∧ ∀ c : Fin 8, planForDay s.store s.clock.day c = none) := by
  unfold Ready; decide

/-- A part with a recompute in flight for the desk. -/
def computing : State := after (.shift (fr 1) ⟨[1], 45, 0⟩) (school .open 27000 .blank)

theorem witness_DayCloseTakesAClosing :
    Ready (school .opening 27000 .blank) (fr 0) .dayClose
      ∧ (school .opening 27000 .blank).day.state = .opening
      ∧ Ready State.reset (fr 0) .dayClose ∧ State.reset.day.state = .closed
      ∧ Ready computing (fr 0) .dayClose ∧ computing.day.state = .open
      ∧ computing.timetable.recompute.isSome = true
      ∧ (computing.port 1).service = .inService 0x18 7 false
      ∧ midday.timetable.recompute = none ∧ midday.timetable.held = []
      ∧ (∀ e ∈ [alert none 0, { alert (some ⟨1, ⟨34100, 9⟩, false⟩) 0 with slot := 14 }],
          e ∈ (queued [alert none 0, { alert (some ⟨1, ⟨34100, 9⟩, false⟩) 0 with slot := 14 }]
            midday).messages.outbound)
      ∧ ([alert none 0, { alert (some ⟨1, ⟨34100, 9⟩, false⟩) 0 with slot := 14 }].map
          (·.slot)).Nodup
      ∧ midday.wires.toMessages = [] ∧ (refAt midday 13).isSome = true := by
  unfold Ready; decide

/-- A standing notice of slot 13, from one day to another. -/
def standing (first last : DayNumber) (s : State) : State :=
  { s with messages := { s.messages with
    standing := [⟨13, .absent, 3, ⟨true, false⟩, first, last, 9, ⟨100, 8⟩⟩] } }

/-- A standing notice that covers today, one that begins tomorrow and one that has expired. -/
theorem witness_OpenWalkVisitResetsItsSlot :
    (let s := standing 9 9 (walking .openWalk 13 (school .opening 25300 .late))
     s.lines.resetN = true ∧ s.register.walker.hand = some .openWalk
       ∧ s.register.walker.cursor = 13 ∧ 13 < 2048
       ∧ tableWf noRecord 2048 s.register.records = true
       ∧ ((standingOf s 13).map fun e =>
            decide (e.firstDay ≤ today s) && decide (today s ≤ e.lastDay)
              && e.sessions.has .am && !e.sessions.has .pm) = some true)
      ∧ (let s := standing 10 10 (walking .openWalk 13 (school .opening 25300 .late))
         ((standingOf s 13).map fun e => decide (today s < e.firstDay)) = some true)
      ∧ (let s := standing 8 8 (walking .openWalk 13 (school .opening 25300 .late))
         ((standingOf s 13).map fun e => decide (e.lastDay < today s)) = some true) := by decide

/-- A record with everything in it is reset whole. -/
theorem test_open_visit_resets :
    (let s := walking .openWalk 13 (recorded (fun r => { r with
        presence := .onSite, signIn := some ⟨31000, 8⟩, minutesLate := some 3, confirmed := true,
        signOut := some ⟨32000, 8⟩, returning := true, alert := .delivered })
        (school .opening 25300 .late))
     recordAt (after .openWalkVisit s) 13 = .reset .blank .blank) := by decide

theorem witness_OpenWalkCompletesTheOpening :
    (let s := walking .openWalk 2048 { school .opening 31199 .blank with
        day := { (school .opening 31199 .blank).day with openPort := some 0 }
        link := (after (.dayOpen (fr 0)) { school .closed 25200 .none with day := .reset }).link }
     s.lines.resetN = true ∧ s.register.walker.hand = some .openWalk
       ∧ s.register.walker.cursor = 2048 ∧ s.day.state = .opening ∧ s.day.register = some 9
       ∧ s.day.held = [] ∧ s.day.closePending = false
       ∧ runningMinute s (s.clock.time / 60) s.clock.day = some 519
       ∧ (s.timetable.tables.map (·.plan)).Nodup
       ∧ (∀ u ∈ s.timetable.tables, u.state = .waiting ∧ ∀ e ∈ u.entries,
            e.begun = false ∧ 519 < e.start)
       ∧ s.register.walker.waiting = [] ∧ s.day.openPort = some 0
       ∧ (s.port 0).service = .inService 0x03 7 false) := by decide

/-- A request held during OPENING, and a close pending beside it. -/
theorem witness_OpenWalkCompletesTheOpening_held :
    (let s := walking .openWalk 2048 { school .opening 31199 .blank with
        day := { (school .opening 31199 .blank).day with
          held := [⟨2, .readTimetable 1 0⟩], closePending := true } }
     s.lines.resetN = true ∧ s.register.walker.hand = some .openWalk
       ∧ s.register.walker.cursor = 2048 ∧ s.day.held = [⟨2, .readTimetable 1 0⟩]
       ∧ s.day.closePending = true) := by decide

theorem witness_CloseWalkVisitSettlesItsSlot :
    (let s := recorded (fun r => { r with am := { r.am with since := some ⟨32100, 9⟩ } })
        (walking .closeWalk 13 (school .closing 60001 .unexplained))
     s.lines.resetN = true ∧ s.register.walker.hand = some .closeWalk
       ∧ s.register.walker.cursor = 13 ∧ s.day.closeTime = some ⟨60000, 9⟩
       ∧ tableWf noRecord 2048 s.register.records = true ∧ pupilAt s 13 = some pupil
       ∧ markOf s 13 .am = .unexplained ∧ markOf s 13 .pm = .blank
       ∧ ((recordAt s 13).session .am).since = some ⟨32100, 9⟩ ∧ pupilAt s 2047 = none) := by
  decide

/-- A NOT_SEEN session: the conversion is FINAL at the close time, leaves an amendment and no alert. -/
theorem witness_CloseWalkVisitSettlesItsSlot_notSeen :
    (let s := walking .closeWalk 13 (school .closing 60001 .notSeen)
     s.lines.resetN = true ∧ s.register.walker.hand = some .closeWalk
       ∧ s.register.walker.cursor = 13 ∧ s.day.closeTime = some ⟨60000, 9⟩
       ∧ tableWf noRecord 2048 s.register.records = true ∧ pupilAt s 13 = some pupil
       ∧ markOf s 13 .am = .notSeen
       ∧ (let t := after .closeWalkVisit s
          (recordAt t 13).am
              = ⟨.unexplained, some .final, some ⟨60000, 9⟩, none, none, false, false⟩
            ∧ t.register.amendments
              = [⟨13, .am, .notSeen, .unexplained, .final, ⟨60000, 9⟩⟩]
            ∧ t.wires.toMessages = [])) := by decide

theorem witness_CloseWalkCompletesTheClosing :
    (let s := walking .closeWalk 2048 { school .closing 60001 .late with
        day := { (school .closing 60001 .late).day with closePort := some 1 }
        link := (after (.dayClose (fr 1)) (school .open 60000 .late)).link }
     s.lines.resetN = true ∧ s.register.walker.hand = some .closeWalk
       ∧ s.register.walker.cursor = 2048 ∧ s.day.state = .closing ∧ s.day.register = some 9
       ∧ s.day.closeTime = some ⟨60000, 9⟩ ∧ s.day.held = [] ∧ s.day.closePending = false
       ∧ s.register.walker.waiting = [] ∧ s.day.closePort = some 1
       ∧ (s.port 1).service = .inService 0x04 7 false) := by decide

/-- Two reads of the register held during CLOSING. -/
theorem witness_CloseWalkCompletesTheClosing_held :
    (let s := walking .closeWalk 2048 { school .closing 60001 .late with
        day := { (school .closing 60001 .late).day with
          held := [⟨0, .readChanges⟩, ⟨1, .readRegister .summary⟩] } }
     s.lines.resetN = true ∧ s.register.walker.hand = some .closeWalk
       ∧ s.register.walker.cursor = 2048 ∧ s.day.closePending = false
       ∧ s.day.held = [⟨0, .readChanges⟩, ⟨1, .readRegister .summary⟩]) := by decide

theorem witness_WritePlanReplacesItsPlan :
    (let good := written 520 [carried .lesson 10 5 .absent]
     Ready State.reset (fr 0) .writePlan ∧ planCheck good = none
       ∧ State.reset.day.state = .closed ∧ good.plan = ((0 : Fin 8) : Nat) + 1
       ∧ planCheck (written 520 [carried .lesson 10 11 .absent]) = some (.floor, some 0)
       ∧ Ready midday (fr 0) .writePlan ∧ midday.day.state ≠ .closed ∧ inUse midday 1 = true
       ∧ inUse midday 8 = false
       ∧ good.entries ≠ [] ∧ good.count ≤ 24 ∧ good.count = good.entries.length
       ∧ 300 ≤ good.start ∧ good.start ≤ 900 ∧ good.endPattern ≠ none
       ∧ planCheck { good with plan := 9 } = some (.range, none)
       ∧ planCheck { good with count := 2 } = some (.range, none)
       ∧ planCheck ⟨8, 0, 0, [], none, 0⟩ = none) := by
  unfold Ready; decide

/-- A plan that ends at minute 1380, and a write with no entries. -/
theorem witness_CheckedPlansAreSound :
    planCheck (written 900 [carried .lesson 180 5 .absent, carried .registration 180 5 (.tag .am),
        carried .registration 120 5 (.tag .pm)]) = none
      ∧ planCheck ⟨8, 0, 0, [], none, 0⟩ = none ∧ Settings.default.autoClose < 1380
      ∧ Ready State.reset (fr 0) .writePlan ∧ State.reset.day.state = .closed
      ∧ State.reset.store.settings = Settings.default := by
  unfold Ready; decide

theorem witness_CohortsAndSettingsAreReplaced :
    Ready State.reset (fr 0) .writeCohorts ∧ State.reset.day.state = .closed
      ∧ Ready midday (fr 0) .writeCohorts ∧ midday.day.state ≠ .closed
      ∧ cohortsOk [⟨7, true, Vector.replicate 7 8, .plan 8⟩] = true
      ∧ cohortsOk [⟨8, true, Vector.replicate 7 8, .absent⟩] = false
      ∧ Ready State.reset (fr 0) .writeSettings ∧ Ready midday (fr 0) .writeSettings
      ∧ (1 : Nat) ≠ midday.store.settings.weekdayBase
      ∧ 0 = midday.store.settings.weekdayBase := by
  unfold Ready; decide

theorem witness_PlansAndTimetablesAreReadInParts :
    Ready midday (fr 0) .readPlan ∧ midday.store.plans[(0 : Fin 8)].body = some worked
      ∧ midday.store.plans[(7 : Fin 8)].body = none
      ∧ Ready midday (fr 2) .readTimetable ∧ midday.day.state = .open
      ∧ midday.timetable.recompute = none ∧ tableOf midday 8 = none
      ∧ tableOf midday 1 = some (buildTable 1 worked)
      ∧ ((said 2 (after (.readTimetable (fr 2) 1 9) midday)).map fun x =>
          match x.2 with
          | .timetable fixed _ => fixed.sessions
          | _ => []) = some [⟨.am, some 535, false, false⟩, ⟨.pm, some 790, false, false⟩]
      ∧ Ready computing (fr 2) .readTimetable ∧ computing.timetable.recompute.isSome = true
      ∧ Ready State.reset (fr 2) .readTimetable ∧ State.reset.day.state = .closed
      ∧ Ready (school .opening 25300 .blank) (fr 2) .readTimetable := by
  unfold Ready; decide

/-- C below, at and above the whole slack, with equal and unequal remainders. -/
theorem witness_CutsShareTheMinutesExactly :
    0 < 45 ∧ 45 < [10, 15, 15, 5, 15, 10, 0, 15, 15].sum
      ∧ [10, 15, 15, 5, 15, 10, 0, 15, 15].sum ≤ 100
      ∧ cuts 45 [10, 15, 75] = [4, 7, 34] ∧ 4 = 45 * 10 / 100 ∧ 7 = 45 * 15 / 100 + 1
      ∧ 45 = delayApplied (buildTable 1 worked) 45 0 + 0 := by decide

theorem witness_CompressionKeepsTablesLaid :
    (buildTable 1 worked).laid ∧ (∀ e ∈ (buildTable 1 worked).entries, e.begun = false)
      ∧ delayApplied (buildTable 1 worked) 45 0 = 45
      ∧ (∃ e ∈ (buildTable 1 worked).entries.map fun e => { e with begun := true },
          e.begun = true)
      ∧ (cuts 45 ((buildTable 1 worked).entries.map EffEntry.slack))[1]? = some 7
      ∧ ((compress (buildTable 1 worked) 45 0).entries.map fun e => (e.start, e.length))[1]?
        = some (581, 53) :=
  ⟨⟨520, by decide, worked_laid, by decide⟩, by decide, by decide, by decide, by decide, by decide⟩

/-- With the delay of 45 a pass starts; with none, or for a plan with no table, none does. -/
theorem witness_ShiftStartsARecompute :
    Ready midday (fr 1) .shift ∧ midday.day.state = .open ∧ midday.timetable.recompute = none
      ∧ (∀ p ∈ [1, 8], 1 ≤ p ∧ p ≤ 8) ∧ tableOf midday 1 = some (buildTable 1 worked)
      ∧ 0 < delayApplied (buildTable 1 worked) (min 45 180) (min 0 180) + min 0 180
      ∧ delayApplied (buildTable 1 worked) (min 0 180) (min 0 180) + min 0 180 = 0
      ∧ Ready (after (.replyComplete 1) { computing with link := midday.link }) (fr 1) .shift
      ∧ Ready State.reset (fr 1) .shift ∧ Ready (school .opening 25300 .blank) (fr 1) .shift := by
  unfold Ready; decide

/-- The part once the pass has completed. -/
def computed : State := after (.recomputePassComplete 1) computing

theorem witness_PassesCompleteAndTheSwapIsTaken :
    (∃ c, computing.timetable.recompute = some c ∧ ∃ x ∈ c.passes, x.result = none)
      ∧ ∃ c : Recompute, computed.lines.resetN = true ∧ computed.timetable.recompute = some c
        ∧ computed.timetable.held = []
        ∧ (computed.port c.port).service = .inService 0x18 7 false
        ∧ (c.passes.map (·.plan)).Nodup
        ∧ (∀ x ∈ c.passes, ∃ u y, tableOf computed x.plan = some u ∧ x.result = some y
          ∧ y.table.plan = x.plan ∧ y.table.entries.map (·.entry) = u.entries.map (·.entry))
        ∧ computed.timetable.current = none := by
  refine ⟨⟨_, rfl, by decide⟩, _, by decide, rfl, by decide, by decide, by decide, ?_, by decide⟩
  intro x hx
  cases List.mem_singleton.1 hx
  exact ⟨buildTable 1 worked, passResult (buildTable 1 worked) 45 0, by decide, by decide,
    by decide, by decide⟩

/-- R45, R46: at minute 520, with e0 beginning, a pass that has completed starts again from the new table
when its swap is due, and stands while the pass of another plan is running; a running pass starts again. -/
theorem test_minute_restarts_passes :
    (let at520 := fun t : Timetable => { school .open 31199 .blank with timetable := t }
     let more := fun t : Timetable => { t with recompute := t.recompute.map fun c =>
       { c with passes := c.passes ++ [⟨2, buildTable 2 worked, none⟩] } }
     let seen := fun t : Timetable => (after (.secondEvent true) (at520 t)).timetable.recompute.map
       fun c => c.passes.map fun x => (x.plan, x.result.isSome, (x.base.entries.map (·.begun)).head?)
     seen computed.timetable = some [(1, false, some true)]
       ∧ seen computing.timetable = some [(1, false, some true)]
       ∧ seen (more computed.timetable)
         = some [(1, true, some false), (2, false, some false)]) := by decide

/-- A plan that joins and one that is not in use: the premises of the figures, and the figures, in plan
order. -/
theorem witness_PassesCompleteAndTheSwapIsTaken_figures :
    (let s := after (.recomputePassComplete 1)
        (after (.shift (fr 1) ⟨[8, 1], 45, 0⟩) (school .open 27000 .blank))
     (s.timetable.recompute.map fun c =>
        (c.settled.map (·.plan), c.passes.map (·.plan), c.adjusted,
          c.passes.map fun x => x.result.map (·.figures.plan))) = some ([8], [1], false, [some 1])
       ∧ ((said 1 (after .swap s)).map fun x =>
          match x.2 with
          | .shifted figures => figures.map fun f => (f.plan, f.inUse, f.cutTotal, f.newEnd)
          | _ => []) = some [(1, true, 45, 915), (8, false, 0, 0)]) := by decide

/-- A recompute in flight, its pass running. -/
theorem witness_EveryStepKeepsTablesLaid_recompute :
    computing.timetable.sound ∧ computing.recomputesInOpen ∧ computing.timetable.recompute ≠ none := by
  refine ⟨⟨by decide, ?_, ?_⟩, ⟨fun _ => by decide, fun _ h => ?_⟩, by decide⟩
  · intro u hu
    obtain rfl : u = buildTable 1 worked := List.mem_singleton.1 hu
    exact ⟨520, by decide, worked_laid, by decide⟩
  · intro c hc x hx
    obtain rfl : x = ⟨1, buildTable 1 worked, none⟩ := by
      cases hc
      exact List.mem_singleton.1 hx
    refine ⟨⟨520, by decide, worked_laid, by decide⟩, rfl, ?_, fun y h => by cases h⟩
    intro u hu _
    obtain rfl : u = buildTable 1 worked := List.mem_singleton.1 hu
    rfl
  · cases h

/-- A read, a SHIFT that starts a recompute of its own and a read held for the swap: the last waits. -/
theorem witness_PassesCompleteAndTheSwapIsTaken_held :
    (let first : Held := ⟨2, .readTimetable 1 0⟩
     let second : Held := ⟨0, .shift ⟨[1], 0, 45⟩⟩
     let u := after .swap computed
     computed.lines.resetN = true
       ∧ (computed.timetable.recompute.any fun c => c.passes.all (·.result.isSome)) = true
       ∧ u.timetable.recompute = none ∧ (serveHeld first u).timetable.recompute = none
       ∧ (serveHeld second (serveHeld first u)).timetable.recompute ≠ none)
      ∧ Ready midday (fr 2) .readTimetable
      ∧ (Holdable.command (fr 2) (.readTimetable 1 0)).asRequest = some (fr 2, .readTimetable) := by
  unfold Ready; decide

/-- Enrolment in OPEN and CLOSED, an update, and each refusal, at the last slot and card. -/
theorem witness_WritePupilEnrolsOrReplaces :
    Ready midday (fr 0) .writePupil ∧ midday.pupils.sound ∧ midday.canonical
      ∧ pupilInRange ⟨2047, 2, 16777215, 7, 63, 31, [⟨65535, some .voice⟩], 0xFF⟩ = true
      ∧ pupilInRange ⟨2048, 2, 0, 0, 0, 0, [], 0⟩ = false
      ∧ pupilAt midday 2047 = none ∧ midday.day.state = .open
      ∧ pupilAt midday 13 = some pupil ∧ pupil.ref ≠ 2 ∧ pupil.cohort ≠ 7
      ∧ (∀ k q, k ≠ 2047 → pupilAt midday k = some q → q.ref ≠ 2 ∧ q.card ≠ 16777215) := by
  refine ⟨by unfold Ready; decide, midday_pupils, midday_canonical, by decide, by decide,
    by decide, by decide, by decide, by decide, by decide, ?_⟩
  intro k q _ h
  by_cases hk : k = 13
  · subst hk; cases (show some pupil = some q from h); decide
  · exfalso
    have : pupilAt midday k = none := by
      show readSlot none [(13, some pupil)] k = none
      simp [readSlot, hk]
    rw [this] at h; cases h

/-- Slot 13 holds the reference, slot 12 the card: check 3 of R64 goes before check 4. -/
theorem test_reference_before_card :
    said 0 (after (.writePupil (fr 0) ⟨14, 1001, 88, 0, 0, 0, [], 0⟩)
      { midday with pupils := ⟨[(12, some { pupil with ref := 5, card := 88 }), (13, some pupil)],
          Vector.replicate 8 none⟩ }) = some (.duplicate, .slotHeld 13) := by decide

theorem witness_ClearPupilClearsEveryPart :
    Ready midday (fr 0) .clearPupil ∧ midday.pupils.sound ∧ midday.canonical
      ∧ pupilAt midday 13 = some pupil ∧ pupil.ref = 1001 ∧ midday.roll.state = .idle
      ∧ pupilAt midday 2047 = none
      ∧ Ready (after .alarmAssert midday) (fr 0) .clearPupil
      ∧ (after .alarmAssert midday).roll.state ≠ .idle :=
  ⟨by unfold Ready; decide, midday_pupils, midday_canonical, by decide, by decide, by decide,
    by decide, by unfold Ready; decide, by decide⟩

/-- Card 77 matches slot 13, card 78 derives slot 14 and is a mismatch, card 128 no window claims. -/
theorem witness_WindowsDeriveSlotsFromCards :
    Ready midday (fr 0) .writeWindow ∧ Ready midday (fr 0) .readPupil
      ∧ midday.pupils.windows[(0 : Fin 8)] = some ⟨64, 63, 0⟩
      ∧ 77 ||| 63 = 64 ||| 63 ∧ 13 = 0 + (77 &&& 63) ∧ pupilAt midday 13 = some pupil
      ∧ pupil.card = 77
      ∧ 78 ||| 63 = 64 ||| 63 ∧ 14 = 0 + (78 &&& 63) ∧ pupilAt midday 14 = none
      ∧ 128 ||| 63 ≠ 64 ||| 63 ∧ (∀ n : Fin 8, n ≠ 0 → midday.pupils.windows[n] = none)
      ∧ lookup midday 1001 = some (13, pupil) ∧ lookup midday 2 = none := by
  unfold Ready; decide

/-- Each clause of MARK: a hold, a repeat, an applied change and a NOTIFIED onto NOTIFIED. -/
theorem witness_MarkIsDecidedByPrecedence :
    (let r : MarkReq := ⟨1001, some .am, some .present, none⟩
     Ready midday (fr 2) .mark ∧ midday.canonical
       ∧ (midday.port (fr 2).port).role = .terminal
       ∧ markContent true r = some (.am, .present, none)
       ∧ markContent true ⟨1001, some .am, some .late, none⟩ = none
       ∧ lookup midday 1001 = some (13, pupil) ∧ lookup midday 2 = none
       ∧ pupilAt midday 13 = some pupil ∧ markOf midday 13 .am = .present
       ∧ cohortPlan midday pupil.cohort = some 1 ∧ closedFor midday 1 .am = false
       ∧ precedence (markOf midday 13 .am) .teacher .present = .apply
       ∧ precedence (markOf (school .open 31500 .late) 13 .am) .teacher .present ≠ .apply
       ∧ precedence (markOf (school .open 31500 .blank) 13 .am) .teacher .present = .apply
       ∧ markOf (school .open 31500 .blank) 13 .am ≠ .present
       ∧ markContent false ⟨1001, some .am, some .notified, none⟩
          = some (.am, .notified, some ⟨.absent, 0⟩)
       ∧ precedence (markOf (school .open 31500 .notified) 13 .am) .desk .notified = .apply
       ∧ markOf (school .open 31500 .none) 13 .am = .none
       ∧ (let s := { midday with register := { midday.register with
            closed := midday.register.closed.set 0 ⟨true, false⟩ } }
          closedFor s 1 .am = true)) := by
  unfold Ready State.canonical; decide

/-- A full list of entries for other slots. -/
def others {α : Type} (n : Nat) (f : Nat → α) : List α := (List.range n).map fun i => f (100 + i)

/-- An amendment list of 256 entries of other slots, and the mark that overruns it. -/
def fullTrail : State :=
  { midday with register := { midday.register with
      amendments := others 256 fun k => ⟨k, .am, .present, .late, .desk, ⟨31000, 9⟩⟩ } }

/-- The full list loses its oldest entry, slot 100's, to the new one. -/
theorem witness_MarkIsDecidedByPrecedence_overrun :
    Ready fullTrail (fr 1) .mark ∧ fullTrail.canonical
      ∧ 256 ≤ fullTrail.register.amendments.length
      ∧ (fullTrail.register.amendments.head?.map (·.slot)) = some 100
      ∧ markContent false ⟨1001, some .am, some .late, none⟩ = some (.am, .late, none)
      ∧ precedence (markOf fullTrail 13 .am) .desk .late = .apply
      ∧ (let t := after (.mark (fr 1) ⟨1001, some .am, some .late, none⟩) fullTrail
         t.register.lost = 1 ∧ t.register.amendments.length = 256
           ∧ (recordAt t 100).am.trailGap = true
           ∧ t.link.fault.map (·.kind) = some .trailOverrun) := by
  unfold Ready State.canonical; decide

/-- At one due stamp the AM sweep of plan 1 goes before its PM sweep, a route and a group item. -/
theorem witness_GroupMarksQueueAndWalksComplete_order :
    (let due : Stamp := ⟨32100, 9⟩
     let items : List WalkItem := [.group ⟨⟨1, 1, ⟨true, false⟩, .offsite⟩, due⟩, .route ⟨2, due⟩,
       .session ⟨1, .pm, due⟩, .session ⟨1, .am, due⟩]
     .session ⟨1, .am, due⟩ ∈ items ∧ (∀ x, .session x ∈ items → x.plan ≤ 8)
       ∧ ∀ x ∈ items, x = .session ⟨1, .am, due⟩
          ∨ (WalkOrder (.session ⟨1, .am, due⟩) x ∧ ¬ WalkOrder x (.session ⟨1, .am, due⟩))) := by
  have d : stampDiff ⟨32100, 9#16⟩ ⟨32100, 9#16⟩ = 0 := by decide
  simp [WalkOrder, WalkItem.due, d]

theorem witness_GroupMarksQueueAndWalksComplete :
    (let r : GroupMarkReq := ⟨1, 4, ⟨true, false⟩, some .offsite⟩
     Ready midday (fr 1) .groupMark
       ∧ groupContents r = some ⟨1, 4, ⟨true, false⟩, .offsite⟩
       ∧ groupContents { r with mark := some .late } = none
       ∧ midday.register.walker.groupBusy = false ∧ midday.register.walker.hand = none
       ∧ midday.register.walker.alarm = false ∧ midday.register.walker.waiting = []
       ∧ (let s := walking (.item (.session ⟨1, .am, ⟨32100, 9⟩⟩)) 2048 midday
          Ready s (fr 1) .groupMark ∧ s.register.walker.hand ≠ none
            ∧ s.register.walker.cursor = 2048)
       ∧ (after (.groupMark (fr 1) r) midday).register.walker.groupBusy = true) := by
  unfold Ready; decide

/-- A group walk completes with a session sweep waiting, which leaves the queue. -/
theorem witness_GroupMarksQueueAndWalksComplete_next :
    (let i : SessionItem := ⟨1, .am, ⟨32100, 9⟩⟩
     let s := walking (.item (.group ⟨⟨1, 4, ⟨true, false⟩, .offsite⟩, ⟨32000, 9⟩⟩)) 2048
        { midday with register := { midday.register with
          group := { midday.register.group with state := .running }
          walker := { midday.register.walker with sessions := [i] } } }
     s.lines.resetN = true ∧ s.register.walker.cursor = 2048
       ∧ firstBy WalkItem.before s.register.walker.waiting = some (.session i)
       ∧ s.register.walker.alarm = false
       ∧ (let t := after .walkComplete s
          t.register.group.state = .done ∧ t.register.walker.sessions = [])) := by decide

/-- A session, a route and a group walk at slot 13, and one under the alarm. -/
theorem witness_WalkVisitsActOnTheirSlot :
    (let s := walking (.item (.session ⟨1, .am, ⟨32100, 9⟩⟩)) 13 (school .open 32100 .notSeen)
     s.lines.resetN = true ∧ s.canonical ∧ s.register.walker.cursor = 13
       ∧ s.register.walker.alarm = false ∧ pupilAt s 13 = some pupil
       ∧ cohortPlan s pupil.cohort = some 1 ∧ routeHeld s pupil.route = false
       ∧ markOf s 13 .am = .notSeen ∧ markOf s 13 .pm = .blank
       ∧ (after .alarmAssert s).register.walker.alarm = true
       ∧ (planTodayOf s pupil.cohort).map (·.plan) = some 1 ∧ pupil.route ≠ 0
       ∧ (0x80 : RouteSet).getLsbD pupil.route = true
       ∧ pupil.groups &&& 1 ≠ 0 ∧ (4 : EightSet).getLsbD pupil.cohort = true
       ∧ precedence .blank .group .offsite = .apply ∧ pupilAt s 2047 = none
       ∧ (let c := { s with register := { s.register with
            closed := s.register.closed.set 0 ⟨true, false⟩ } }
          closedFor c 1 .am = true ∧ closedFor c 1 .pm = false)
       ∧ pupil.groups &&& 2 = 0 ∧ (4 : EightSet).getLsbD 3 = false) := by
  unfold State.canonical; decide

/-- A group walk to OFFSITE meets UNEXPLAINED: the session leaves it, its minutes pass, and the pupil
leaves the site; one to AUTHORISED meets OFFSITE. -/
theorem witness_WalkVisitsActOnTheirSlot_group :
    (let g : GroupContents := ⟨1, 4, ⟨true, false⟩, .offsite⟩
     let s := walking (.item (.group ⟨g, ⟨32000, 9⟩⟩)) 13
        (recorded (fun r => { r with am := { r.am with since := some ⟨31000, 9⟩ } })
          (school .open 32100 .unexplained))
     s.lines.resetN = true ∧ s.canonical ∧ s.register.walker.cursor = 13
       ∧ s.register.walker.alarm = false ∧ pupilAt s 13 = some pupil
       ∧ pupil.groups &&& g.groups ≠ 0 ∧ g.cohorts.getLsbD pupil.cohort = true
       ∧ (g.sessions.list.filter fun y => markOf s 13 y != .none
            && precedence (markOf s 13 y) .group g.mark == .apply && markOf s 13 y != g.mark) = [.am]
       ∧ (let t := after .groupWalkVisit s
          t.register.amendments = [⟨13, .am, .unexplained, .offsite, .group, ⟨32100, 9⟩⟩]
            ∧ t.wires.toAccumulators = [.openMinutes 13 1001 18]
            ∧ t.wires.toRoll = [⟨13, .offSite⟩])
       ∧ precedence .offsite .group .authorised = .apply) := by
  unfold State.canonical; decide

theorem witness_RegisterReadsAndChanges :
    Ready midday (fr 0) .readRegister ∧ midday.day.state = .open
      ∧ lookup midday 1001 = some (13, pupil) ∧ lookup midday 2 = none
      ∧ Ready (school .closing 60001 .late) (fr 0) .readChanges
      ∧ Ready midday (fr 0) .readChanges
      ∧ (after (.mark (fr 1) ⟨1001, some .am, some .late, none⟩) midday).register.amendments
          ≠ [] := by
  unfold Ready; decide

/-- At the AM start the class is late, a second before it present, and at the effective end after
hours; a pupil of a cohort with no plan is not scheduled. -/
theorem witness_SignInsAreClassified :
    (let s := school .open 31200 .blank
     planTodayOf s 2 = some ⟨1, ⟨true, true⟩⟩ ∧ tableOf s 1 = some (buildTable 1 worked)
       ∧ ((buildTable 1 worked).registration .am).map (·.start) = some 520
       ∧ ((buildTable 1 worked).registration .pm).map (·.start) = some 785
       ∧ runningSecond s ⟨31200, 9⟩ = some 31200 ∧ 60 * 520 ≤ 31200
       ∧ 31200 < 60 * 785 ∧ 31199 < 60 * 520
       ∧ runningSecond s ⟨54900, 9⟩ = some 54900 ∧ 60 * (buildTable 1 worked).effEnd ≤ 54900
       ∧ (buildTable 1 worked).closeMinute .am = some 535
       ∧ (buildTable 1 worked).closeMinute .pm = some 790
       ∧ ((recordAt s 13).session .am).noticeIs .lateExpected = false ∧ holdAt s 7 = none
       ∧ planTodayOf { s with day := .reset, store := .cleared } 2 = none
       ∧ s.day.register = some 9 ∧ runningSecond s ⟨0, 10⟩ = some 86400
       ∧ (11 : DayNumber) ≠ 9 ∧ (11 : DayNumber) ≠ 9 + 1
       ∧ classify s 13 pupil ⟨31200, 11⟩ = .afterHours) := by decide

theorem witness_SignInsWithoutAProposal :
    (let s := school .open 31500 .blank
     Ready s (fr 3) .signIn ∧ s.canonical ∧ (s.port 3).role = .kiosk
       ∧ cardMatch s 128 = .unknown ∧ cardMatch s 78 = .mismatch 0 14
       ∧ Ready s (fr 1) .signIn ∧ (s.port 1).role = .desk ∧ lookup s 2 = none
       ∧ Ready (school .closed 31500 .blank) (fr 3) .signIn
       ∧ Ready (school .opening 31500 .blank) (fr 3) .signIn)
      ∧ classify (school .open 54900 .blank) 13 pupil ⟨54900, 9⟩ = .afterHours
      ∧ (let s := { school .open 31500 .none with
            day := { (school .open 31500 .none).day with plans := Vector.replicate 8 none } }
         classify s 13 pupil (now s) = .notScheduled)
      ∧ (recordAt (school .open 54900 .blank) 13).presence = .unknown
      ∧ (let s := { school .open 31500 .blank with
            pupils := ⟨[(13, some pupil)], (Vector.replicate 8 none).set 0
              (some ⟨64, 63, 2000⟩)⟩ }
         cardMatch s 127 = .mismatch 0 2063 ∧ ¬ 2063 < 2048) := by
  unfold Ready State.canonical; decide

/-- Card 77 at the kiosk names slot 13, which is on site, or back from a sign-out. -/
theorem witness_SignInsWithoutAProposal_named :
    signInNames midday (fr 3) (.byCard 77 true) 13 pupil true
      ∧ signInNames midday (fr 1) (.byReference 1001) 13 pupil false
      ∧ (let s := recorded (fun r => { r with presence := .onSite, signIn := some ⟨31000, 9⟩ })
            midday
         (recordAt s 13).presence = .onSite ∧ (recordAt s 13).signIn = some ⟨31000, 9⟩)
      ∧ (let s := recorded (fun r => { r with presence := .offSite, returning := true }) midday
         (recordAt s 13).presence = .offSite ∧ (recordAt s 13).returning = true) :=
  ⟨.inl ⟨by decide, rfl, 77, 0, ⟨true, rfl⟩, by decide, by decide, by decide⟩,
    .inr ⟨by decide, rfl, 1001, rfl, by decide⟩, by decide, by decide⟩

/-- A LATE sign-in of a BLANK pupil, one of a pupil marked PRESENT, which is held, and a PRESENT one. -/
theorem witness_SignInsAreMarkedAndAnswered :
    (let s := school .open 31500 .blank
     Ready s (fr 3) .signIn ∧ s.canonical ∧ s.day.state = .open ∧ pupilAt s 13 = some pupil
       ∧ (recordAt s 13).presence = .unknown
       ∧ classify s 13 pupil (now s) = .late .am .late ⟨520, 535, 5⟩ none false
       ∧ markOf s 13 .am ≠ .none ∧ precedence (markOf s 13 .am) .signin .late = .apply
       ∧ precedence (markOf midday 13 .am) .signin .late ≠ .apply
       ∧ classify (school .open 31199 .blank) 13 pupil (now (school .open 31199 .blank))
          = .present)
      ∧ signInNames (school .open 31500 .blank) (fr 3) (.byCard 77 false) 13 pupil true :=
  ⟨by unfold Ready State.canonical; decide,
    .inl ⟨by decide, rfl, 77, 0, ⟨false, rfl⟩, by decide, by decide, by decide⟩⟩

/-- A session the pupil does not have, a NOTIFIED with each kind of notice, and minutes past 255. -/
theorem witness_SignInsAreMarkedAndAnswered_notices :
    (let s := school .open 31500 .none
     Ready s (fr 1) .signIn ∧ s.canonical ∧ s.day.state = .open ∧ markOf s 13 .am = .none
       ∧ classify s 13 pupil (now s) = .late .am .late ⟨520, 535, 5⟩ none false)
      ∧ (let s := recorded (fun r => { r with am := { r.am with notice := some ⟨.absent, 3⟩ } })
            (school .open 31500 .notified)
         Ready s (fr 1) .signIn ∧ s.canonical ∧ markOf s 13 .am = .notified
           ∧ ((recordAt s 13).session .am).noticeIs .absent = true
           ∧ precedence (markOf s 13 .am) .signin .late = .apply
           ∧ ((recordAt (after (.signIn (fr 1) (.byReference 1001)) s) 13).session .am).notice
              = none)
      ∧ (let s := recorded (fun r => { r with
              am := { r.am with notice := some ⟨.lateExpected, 3⟩ } })
            (school .open 31500 .notified)
         classify s 13 pupil (now s) = .late .am .excusedLate ⟨520, 535, 5⟩ (some .notice) false
           ∧ ((recordAt (after (.signIn (fr 1) (.byReference 1001)) s) 13).session .am).expectedLate
              = true)
      ∧ (let s := { school .open 46501 .none with
            timetable := ⟨[{ buildTable 1 worked with
              entries := (buildTable 1 worked).entries.take 6 }], none, none, []⟩ }
         classify s 13 pupil (now s) = .late .am .lateClosed ⟨520, 535, 255⟩ none true
           ∧ markOf s 13 .am = .none) := by
  unfold Ready State.canonical; decide

theorem witness_SignOutsAuthoriseWhatHasNotBegun :
    Ready midday (fr 1) .signOut ∧ midday.canonical ∧ midday.day.state = .open
      ∧ lookup midday 1001 = some (13, pupil) ∧ pupilAt midday 13 = some pupil
      ∧ planTodayOf midday pupil.cohort = some ⟨1, ⟨true, true⟩⟩
      ∧ lookup midday 2 = none ∧ Ready State.reset (fr 1) .signOut
      ∧ Ready (school .opening 25300 .blank) (fr 1) .signOut := by
  unfold Ready State.canonical; decide

/-- R113, R114: a mark of PRESENT holds, a NOTIFIED becomes AUTHORISED with its amendment; both are
reported, AM before PM. -/
theorem test_sign_out_outcomes :
    (let s := recorded (fun r => { r with pm := { r.pm with mark := .notified } }) midday
     let t := after (.signOut (fr 1) ⟨1001, some .family, false⟩) s
     signOutSessions s 13 ⟨1, ⟨true, true⟩⟩ = [.am, .pm]
       ∧ (said 1 t) = some (.ok, .signedOut ⟨13, 1001, .family, false, ⟨31500, 9⟩, .offSite,
          [⟨.am, .held, .present⟩, ⟨.pm, .applied, .authorised⟩]⟩)
       ∧ t.register.amendments = [⟨13, .pm, .notified, .authorised, .signout, ⟨31500, 9⟩⟩]
       ∧ t.wires.toRoll = [⟨13, .offSite⟩]) := by decide

/-- A first declaration, a redeclaration past the cap and one below it, and an expiry reached to the
second. -/
theorem witness_RouteHoldsAreDeclaredAndExpire :
    (let s := { school .open 36300 .blank with
        arrivals := ⟨[(7, some ⟨⟨34200, 9⟩, ⟨36600, 9⟩⟩)], 0⟩ }
     let e := { s with clock := ⟨36600, 9, 0, true⟩ }
     Ready s (fr 1) .routeHold ∧ s.canonical ∧ holdAt s 31 = none
       ∧ holdAt s 7 = some ⟨⟨34200, 9⟩, ⟨36600, 9⟩⟩
       ∧ 0 < stampDiff ((now s).plus (min 90 90 * 60)) ((⟨34200, 9⟩ : Stamp).plus 7200)
       ∧ stampDiff ((now s).plus (min 85 90 * 60)) ((⟨34200, 9⟩ : Stamp).plus 7200) ≤ 0
       ∧ reached (now s) ⟨36600, 9⟩ = false ∧ e.day.state = .open
       ∧ reached (now e) ⟨36600, 9⟩ = true ∧ e.arrivals.waits.getLsbD 7 = false
       ∧ e.register.walker.hand = none ∧ e.register.walker.alarm = false
       ∧ e.register.walker.waiting = []
       ∧ Ready State.reset (fr 1) .routeHold
       ∧ Ready (school .opening 36300 .blank) (fr 1) .routeHold) := by
  unfold Ready State.canonical; decide

/-- An entry of the call list with a notice held on it. -/
def heldCall (n : Option HeldNotice) : CallEntry :=
  ⟨13, { CallReasons.none with noticeUnverified := true }, ⟨30000, 9⟩, n⟩

theorem witness_NoticesAreAppliedOrStored :
    Ready midday (fr 4) .notice ∧ midday.canonical
      ∧ Ready (school .opening 25300 .blank) (fr 4) .notice
      ∧ noticeOk (asked 9 9) = true ∧ (asked 9 9).lastDay = today midday
      ∧ today midday < (asked 9 10).lastDay
      ∧ noticeOk (asked 0 9) = false ∧ noticeOk { asked 9 8 with firstDay := 8 } = true
      ∧ (8 : DayNumber) < today midday ∧ lookup midday 1001 = some (13, pupil)
      ∧ lookup midday 2 = none ∧ (∃ c ∈ pupil.contacts, c.contact = (9 : BitVec 16).toNat)
      ∧ (∀ c ∈ pupil.contacts, c.contact ≠ (8 : BitVec 16).toNat)
      ∧ callRoom midday 13 = true ∧ midday.messages.standing.length < 64
      ∧ precedence (markOf midday 13 .am) .notice .notified = .conflict
      ∧ precedence (markOf midday 13 .pm) .notice .notified = .apply := by
  unfold Ready State.canonical; decide

/-- Both lists full of other pupils. -/
def crowded : State :=
  { midday with messages := { midday.messages with
    standing := others 64 fun k => ⟨k, .absent, 3, ⟨true, false⟩, 9, 12, 9, ⟨100, 8⟩⟩
    calls := others 96 fun k => ⟨k, CallReasons.none.add .concern, ⟨100, 8⟩, none⟩ } }

theorem witness_NoticesAreAppliedOrStored_full :
    Ready crowded (fr 4) .notice ∧ crowded.canonical ∧ callRoom crowded 13 = false
      ∧ 64 ≤ crowded.messages.standing.length ∧ standingOf crowded 13 = none
      ∧ today crowded < (asked 9 10).lastDay := by
  unfold Ready State.canonical; decide

theorem witness_ConfirmedNoticesAreTaken :
    (let n : HeldNotice := ⟨.absent, 3, ⟨true, false⟩, 9, 9, 8⟩
     let s := { midday with messages := { midday.messages with calls := [heldCall (some n)] } }
     Ready s (fr 1) .confirmNotice ∧ s.canonical ∧ s.day.state ≠ .opening
       ∧ callOf s 13 = some (heldCall (some n)) ∧ pupilAt s 13 = some pupil
       ∧ today s ≤ n.lastDay ∧ s.day.state = .open ∧ n.lastDay = today s
       ∧ s.wires.toMessages = []
       ∧ { s with wires := { s.wires with toMessages := [.raise 13 1001 .am] } }.wires.toMessages
          ≠ []
       ∧ precedence (markOf s 13 .am) .notice .notified = .conflict
       ∧ today { s with day := { s.day with register := some 10 } } = 10 ∧ n.lastDay < 10
       ∧ callOf midday 13 = none ∧ Ready (school .opening 25300 .blank) (fr 1) .confirmNotice
       ∧ (s.messages.calls.map (·.slot)).Nodup
       ∧ ({ (heldCall (some n)).reasons with noticeUnverified := false } : CallReasons)
          = ⟨false, false, false, false, false, false⟩
       ∧ ({ (heldCall (some n)).reasons with
            noticeUnverified := false, noticeConflict := true } : CallReasons)
          ≠ ⟨false, false, false, false, false, false⟩
       ∧ n.sessions.has .pm = false ∧ markOf s 13 .am ≠ .unexplained
       ∧ markOf (school .open 31500 .unexplained) 13 .am = .unexplained
       ∧ n.firstDay ≤ today s ∧ today s < (10 : DayNumber))
      ∧ (let n : HeldNotice := ⟨.absent, 3, ⟨true, false⟩, 9, 10, 8⟩
         let s := { crowded with messages := { crowded.messages with
            calls := [heldCall (some n)] } }
         Ready s (fr 1) .confirmNotice ∧ today s < n.lastDay
           ∧ 64 ≤ s.messages.standing.length ∧ standingOf s 13 = none) := by
  unfold Ready State.canonical; decide

theorem witness_ListsAreReadAndKept :
    Ready midday (fr 0) .readStanding ∧ Ready midday (fr 1) .readCalls
      ∧ Ready (standing 9 12 midday) (fr 0) .cancelStanding
      ∧ (standingOf (standing 9 12 midday) 13).isSome = true
      ∧ lookup midday 1001 = some (13, pupil) ∧ standingOf midday 13 = none
      ∧ Ready midday (fr 1) .clearCall ∧ callOf midday 13 = none
      ∧ callOf { midday with messages := { midday.messages with calls := [heldCall none] } } 13
          = some (heldCall none)
      ∧ refAt midday 13 = some 1001 ∧ refAt midday 14 ≠ some 1001
      ∧ 96 ≤ crowded.messages.calls.length ∧ callOf crowded 13 = none
      ∧ (let s := { midday with wires := { midday.wires with
            toMessages := [.conflict 13 1001], concern := [⟨13, 1001⟩] } }
         s.lines.resetN = true ∧ s.wires.toMessages = .conflict 13 1001 :: []
           ∧ s.wires.concern = ⟨13, 1001⟩ :: []) := by
  unfold Ready; decide

/-- A CONCERN joins an entry, whose other reasons stay. -/
theorem witness_ListsAreReadAndKept_joined :
    (let s := { midday with
        messages := { midday.messages with calls := [heldCall none] }
        wires := { midday.wires with concern := [⟨13, 1001⟩] } }
     s.lines.resetN = true ∧ refAt s 13 = some 1001 ∧ callOf s 13 = some (heldCall none)
       ∧ (callOf (after (.callListAdd .termAccumulators) s) 13).map (·.reasons)
         = some { (heldCall none).reasons with concern := true }) := by decide

/-- A raise and a leave meet no entry, a QUEUED one, a HANDED one, and a full queue. -/
theorem witness_RaisesLeavesAndReports :
    (let s := { midday with wires := { midday.wires with
        toMessages := [.raise 13 1001 .am], reports := [⟨13, 1001, .queued⟩] } }
     s.lines.resetN = true ∧ s.canonical ∧ s.wires.toMessages = .raise 13 1001 .am :: []
       ∧ refAt s 13 = some 1001 ∧ outboundOf s 13 = none ∧ s.messages.outbound.length < 192
       ∧ s.wires.reports = ⟨13, 1001, .queued⟩ :: []
       ∧ outboundOf (queued [alert none 0] s) 13 = some (alert none 0)
       ∧ (alert none 0).sessions = .of .am
       ∧ (let e := alert (some ⟨1, ⟨34100, 9⟩, false⟩) 0
          outboundOf (queued [e] s) 13 = some e ∧ e.handed ≠ none
            ∧ e.sessions.has .am = true ∧ ∀ y : Session, e.sessions.has y = true → y = .am)
       ∧ (let e := { alert none 0 with sessions := ⟨true, true⟩ }
          outboundOf (queued [e] s) 13 = some e ∧ e.kind = .alert ∧ e.handed = none)
       ∧ (let e := { alert (some ⟨1, ⟨34100, 9⟩, false⟩) 0 with
            recalled := true, followOn := ⟨false, true⟩ }
          outboundOf (queued [e] s) 13 = some e ∧ e.sessions.has .pm = false
            ∧ e.recalled = true ∧ e.followOn.has .pm = true
            ∧ markOf (queued [e] (school .open 31500 .unexplained)) 13 .am = .unexplained)
       ∧ (let e := { alert none 0 with kind := .correction }
          outboundOf (queued [e] s) 13 = some e ∧ e.kind = .correction)
       ∧ (let q := queued (others 192 fun k => { alert none 0 with slot := k }) s
          192 ≤ q.messages.outbound.length ∧ outboundOf q 13 = none ∧ callOf q 13 = none
            ∧ q.messages.calls.length < 96 ∧ 96 ≤ crowded.messages.calls.length)
       ∧ (recordAt (recorded (fun r => { r with alert := .delivered }) s) 13).alert = .delivered
       ∧ refAt s 14 ≠ some 1001) := by
  unfold State.canonical
  refine ⟨by decide, by decide, by decide, by decide, by decide, by decide, by decide, by decide,
    by decide, ⟨by decide, by decide, by decide, ?_⟩, by decide, by decide, by decide, by decide,
    by decide, by decide⟩
  intro y h
  cases y with
  | am => rfl
  | pm => cases h

theorem witness_TakeMessageHandsOverTheHead :
    (let s := queued [alert none 0] midday
     Ready s (fr 4) .takeMessage ∧ handedCount s < 8 ∧ headOfService s = some (alert none 0)
       ∧ pupilAt s 13 = some pupil ∧ pupil.contacts[(alert none 0).contactIndex]? = some ⟨9, .text⟩
       ∧ handedWith s s.messages.tagCounter = none)
      ∧ (let s := queued [alert none 0,
            { alert (some ⟨1, ⟨34100, 9⟩, false⟩) 0 with slot := 14 }] midday
         s.messages.tagCounter = 1 ∧ handedWith s 1 ≠ none ∧ handedWith s 2 = none
           ∧ headOfService s = some (alert none 0))
      ∧ (let s := queued [alert none 1] midday
         headOfService s = some (alert none 1) ∧ (s.messages.outbound.map (·.slot)).Nodup
           ∧ pupil.contacts.length ≤ 1
           ∧ ∀ d ∈ s.messages.outbound, d.slot ≠ 13 → d.handed ≠ none)
      ∧ (let s := queued (others 8 fun k =>
            { alert (some ⟨k, ⟨34100, 9⟩, false⟩) 0 with slot := k }) midday
         Ready s (fr 4) .takeMessage ∧ 8 ≤ handedCount s)
      ∧ ∀ e ∈ midday.messages.outbound, e.handed ≠ none := by
  unfold Ready; decide

/-- A CORRECTION of a later stamp and place goes before two alerts; of those the lower place. -/
theorem witness_TakeMessageHandsOverTheHead_order :
    (let e : Outbound := { alert none 0 with
        kind := .correction, slot := 14, queuedTime := ⟨34060, 9⟩, place := 5 }
     let a : Outbound := { alert none 0 with slot := 15, place := 1 }
     (∀ d ∈ [a, alert none 0, e], d = e ∨ (ServiceOrder e d ∧ ¬ ServiceOrder d e))
       ∧ ∀ d ∈ [a, alert none 0], d = alert none 0
          ∨ (ServiceOrder (alert none 0) d ∧ ¬ ServiceOrder d (alert none 0))) := by
  unfold ServiceOrder; decide

/-- The lunch bell of 04, A desk ring on a pulsed lunch bell: 5 and 3 left high, 4 left low; and R49's
SOUNDING line with 0 left high. -/
theorem test_bell_levels :
    [BellLine.sounding .pulsed 5 false, .sounding .pulsed 4 false, .sounding .pulsed 3 false,
      .sounding .continuous 0 true].map BellLine.high = [true, false, true, true] := by decide

/-- R58: at the second event that counts the limit to 0 the push is silent. -/
theorem test_push_limit_level :
    (ringing 1).bell 0 = true ∧ (after (.secondEvent true) (ringing 1)).bell 0 = false := by
  decide

/-- R131: an alert that times out with no session still UNEXPLAINED is not left in the queue. -/
theorem test_timeout_keeps_no_empty_alert :
    (match exec (.handoverTimeout 1) (queued [alert (some ⟨1, ⟨30600, 9⟩, false⟩) 0] midday) with
      | .next t => t.messages.outbound == [] && alertNow t 13 == .withdrawn
      | _ => false) = true := by decide

/-- Timeouts at 899 and at 900 seconds; the last contact and one before it; after the close and
not. -/
theorem witness_ResultsAndTimeoutsSettleHandOvers :
    (let h : Handed := ⟨1, ⟨30600, 9⟩, false⟩
     let s := queued [alert (some h) 0] midday
     Ready s (fr 4) .messageResult ∧ handedWith s 1 = some (alert (some h) 0)
       ∧ (alert (some h) 0).handed = some h ∧ pupilAt s 13 = some pupil
       ∧ handedWith s 2 = none ∧ h.afterClose = false ∧ (alert (some h) 0).recalled = false
       ∧ pupil.contacts.length ≤ 0 + 1 ∧ reached (now s) (h.time.plus 900) = true
       ∧ reached (now { s with clock := ⟨31499, 9, 0, true⟩ }) (h.time.plus 900) = false
       ∧ callOf s 13 = none ∧ s.messages.calls.length < 96)
      ∧ (let e := { alert (some ⟨1, ⟨30600, 9⟩, false⟩) 0 with
            followOn := ⟨true, false⟩, recalled := true }
         let s := queued [e] (school .open 31500 .unexplained)
         handedWith s 1 = some e ∧ e.followOn.has .am = true
           ∧ markOf s 13 .am = .unexplained ∧ reached (now s) ((Stamp.mk 30600 9).plus 900) = true)
      ∧ (let h : Handed := ⟨1, ⟨30600, 9⟩, true⟩
         let s := queued [alert (some h) 0] midday
         handedWith s 1 = some (alert (some h) 0) ∧ h.afterClose = true)
      ∧ (let e := { alert (some ⟨1, ⟨30600, 9⟩, false⟩) 0 with recalled := true }
         let s := queued [e] midday
         handedWith s 1 = some e ∧ e.recalled = true ∧ e.kind = .alert)
      ∧ (let e := alert (some ⟨1, ⟨30600, 9⟩, false⟩) 0
         let q := { pupil with contacts := [⟨9, .text⟩, ⟨10, .voice⟩] }
         let s := { queued [e] midday with pupils := ⟨[(13, some q)], midday.pupils.windows⟩ }
         let u := { queued [e] (school .open 31500 .unexplained) with pupils := s.pupils }
         pupilAt s 13 = some q ∧ 0 + 1 < q.contacts.length ∧ handedWith s 1 = some e
           ∧ ¬ StillOwed s e ∧ Ready u (fr 4) .messageResult ∧ handedWith u 1 = some e
           ∧ pupilAt u 13 = some q ∧ StillOwed u e
           ∧ reached (now u) ((Stamp.mk 30600 9).plus 900) = true) := by
  unfold Ready StillOwed sessionOwed; decide

theorem witness_TotalsGrowByAccrualsAndFolds :
    (let s := { school .closing 60001 .late with wires := { midday.wires with
        lateness := [⟨13, 1001, true, 28⟩], toAccumulators := [.openMinutes 13 1001 41] } }
     s.lines.resetN = true ∧ s.canonical ∧ s.wires.lateness = ⟨13, 1001, true, 28⟩ :: []
       ∧ s.wires.toAccumulators = .openMinutes 13 1001 41 :: [] ∧ refAt s 13 = some 1001
       ∧ refAt s 14 ≠ some 1001 ∧ (totalsAt s 13).lastFold ≠ some 9)
      ∧ (let s := { midday with wires := { midday.wires with
            toAccumulators := [.fold 13 1001 9 .late .present] } }
         s.wires.toAccumulators = .fold 13 1001 9 .late .present :: [])
      ∧ (let s := { midday with totals := ⟨[(13, { zeroAccumulator with lastFold := some 9 })], 0⟩ }
         (totalsAt s 13).lastFold = some 9)
      ∧ Mark.late ≠ .blank ∧ Mark.present ≠ .notSeen
      ∧ Ready midday (fr 0) .readTotals ∧ lookup midday 1001 = some (13, pupil)
      ∧ lookup midday 2 = none ∧ Ready midday (fr 0) .termReset ∧ midday.day.state ≠ .closed
      ∧ Ready State.reset (fr 0) .termReset ∧ State.reset.day.state = .closed := by
  unfold Ready State.canonical; decide

/-- The roll while BUILDING at the last slot and past it, ACTIVE, STANDING and IDLE. -/
theorem witness_TheRollIsBuiltAndAccounted :
    (let s := recorded (fun r => { r with presence := .onSite })
        { midday with roll := ⟨true, .building 13, []⟩ }
     s.lines.resetN = true ∧ s.roll.state = .building 13 ∧ 13 < 2048
       ∧ pupilAt s 13 = some pupil ∧ (recordAt s 13).presence = .onSite
       ∧ (∀ e ∈ s.roll.entries, e.slot ≠ 13))
      ∧ pupilAt midday 2047 = none ∧ (SiteRoll.mk true (.building 2048) []).state = .building 2048
      ∧ (let r : SiteRoll := ⟨true, .active, [⟨13, 2, 11, false, false, false⟩]⟩
         let s := { midday with roll := r, wires := { midday.wires with
            toRoll := [⟨13, .offSite⟩] } }
         s.wires.toRoll = ⟨13, .offSite⟩ :: [] ∧ s.roll.state ≠ .idle
           ∧ (∃ e ∈ s.roll.entries, e.slot = 13)
           ∧ Ready s (fr 1) .account ∧ Ready s (fr 1) .readRoll
           ∧ (s.roll.entries.any fun e => e.slot == 13) = true
           ∧ (s.roll.entries.any fun e => e.tutor == 63) = false
           ∧ Ready s (fr 1) .rollClose ∧ s.roll.state ≠ .standing)
      ∧ (let s := { midday with roll := ⟨false, .standing, []⟩, wires := { midday.wires with
            toRoll := [⟨13, .onSite⟩] } }
         s.wires.toRoll = ⟨13, .onSite⟩ :: [] ∧ s.roll.state = .standing
           ∧ (∀ e ∈ s.roll.entries, e.slot ≠ 13) ∧ Ready s (fr 1) .rollClose)
      ∧ midday.roll.state = .idle := by
  unfold Ready; decide

/-- A header, a length and a check fault, and a sound header of length 240; a port that is parked. -/
theorem witness_ReceiversRecordTheirFaults :
    (let s := after (.syncOctet 3) State.reset
     s.lines.resetN = true ∧ (s.port 3).state = .active ∧ (s.port 3).role ≠ .none
       ∧ (s.port 3).receive = .inFrame ∧ (State.reset.port 3).receive = .hunting
       ∧ (0xBE : Octet).toNat ≠ 255 - ((0x30 : Octet).toNat + (0x11 : Octet).toNat
            + (4 : Octet).toNat) % 256
       ∧ (14 : Octet).toNat = 255 - ((0 : Octet).toNat + (0 : Octet).toNat
            + (241 : Octet).toNat) % 256 ∧ 240 < (241 : Octet).toNat
       ∧ (15 : Octet).toNat = 255 - ((0 : Octet).toNat + (0 : Octet).toNat
            + (240 : Octet).toNat) % 256 ∧ (240 : Octet).toNat ≤ 240
       ∧ frameCrc (1 :: 0 :: 0 :: 254 :: []) ≠ 0
       ∧ ((after (.readTime (fr 3)) s).port 3).service = .inService 1 7 false
       ∧ ((after (.portPark (fr 0) 3) s).port 3).state ≠ .active)
      ∧ ∀ k : Kind, k.octet ≠ 0x7F := by
  refine ⟨by decide, ?_⟩
  intro k
  cases k <;> decide

/-- A kiosk asks what the table gives the RECORDS port, a form does not suit, a port is in service, a
port is parked. -/
theorem witness_ReceiversRecordTheirFaults_requests :
    (Instr.setTime (fr 3) 0 0 0).asRequest = some (fr 3, .setTime)
      ∧ State.reset.lines.resetN = true ∧ (State.reset.port 3).state = .active
      ∧ (State.reset.port 3).role = .kiosk ∧ (State.reset.port 3).service = .idle
      ∧ Kind.setTime.allows .kiosk = false ∧ Kind.signIn.allows .kiosk = true
      ∧ (Instr.signIn ⟨3, 7, false⟩ (.byCard 77 false)).asRequest
        = some (⟨3, 7, false⟩, .signIn)
      ∧ ((after (.readTime (fr 3)) State.reset).port 3).service = .inService 1 7 false
      ∧ ((after (.portPark (fr 0) 3) State.reset).port 3).state ≠ .active := by decide

theorem witness_PortsAreParkedReleasedAndCycled :
    5 < 6 ∧ Ready State.reset (fr 0) .portPark ∧ Ready State.reset (fr 0) .portRelease
      ∧ Ready State.reset (fr 0) .portCycle ∧ (3 : PortId) ≠ (fr 0).port
      ∧ (State.reset.port 3).reply = none ∧ (State.reset.port 3).state ≠ .cycling
      ∧ (let s := after (.replyComplete 0) (after (.portCycle (fr 0) 3) State.reset)
         Ready s (fr 0) .portCycle ∧ (s.port 3).state = .cycling)
      ∧ (let s := after (.takeMessage (fr 4)) State.reset
         (s.port 4).reply.map (·.kind) = some 0xB9 ∧ Ready s (fr 0) .portPark)
      ∧ (let s := after (.replyComplete 0) (after (.portPark (fr 0) 3) State.reset)
         Ready s (fr 0) .portCycle ∧ (s.port 3).state = .parked)
      ∧ ((school .opening 25300 .blank).port 3).state = .active
      ∧ ((after (.signIn (fr 3) (.byCard 77 false)) (school .opening 25300 .blank)).port 3).service
          = .inService 0x30 7 false := by
  unfold Ready; decide

/-- The desk parks or cycles port 0 while the OK of its RESTART is leaving. -/
theorem witness_PortsAreParkedReleasedAndCycled_restart :
    (let s := after (.restart (fr 0)) midday
     (s.port 0).state = .active ∧ (0 : PortId) ≠ (fr 1).port
       ∧ (s.port 0).reply.map (fun a => (a.kind, a.head.status)) = some (0x85, .ok)
       ∧ Ready s (fr 1) .portPark ∧ Ready s (fr 1) .portCycle
       ∧ (after (.portPark (fr 1) 0) s).day = .reset) := by
  unfold Ready; decide

/-- R165: one item is returned whatever its size and the limit. -/
theorem test_one_item_fits : (fit 16 (Config.fixedOctets ()) [pupil]).length = 1 := rfl

theorem witness_LimitsStatusAndFirstFault :
    Ready State.reset (fr 5) .setReplyLimit ∧ Ready State.reset (fr 5) .linkStatus
      ∧ Ready State.reset (fr 1) .readFaults ∧ Ready State.reset (fr 1) .clearFaults
      ∧ (FaultRecord.mk .cardRetry none none ⟨0, 0⟩).kind = .cardRetry
      ∧ { Settings.default with ignoreSoft := true }.ignoreSoft = true
      ∧ State.reset.link.fault = none ∧ State.reset.store.settings.ignoreSoft = false
      ∧ (after (.signIn (fr 3) (.byCard 78 false)) midday).link.fault ≠ none := by
  unfold Ready; decide

end Sys2Proof.Tests
end

section
/-! SUPPORT. The cut of R41 is shared exactly: the places of a list are ranked by remainder, each place
has a rank of its own, and so as many entries as minutes remain are given one more. -/

namespace Sys2Proof.Machine

open Sys2Proof

namespace TimetableLaws

/-! ### Ranks by remainder -/

/-- Whether place `k` is given a further minute before place `i` (R41): the larger remainder first, and
of equal ones the earlier place. -/
def ranksBefore (l : List Nat) (k i : Nat) : Bool :=
  decide (l.getD i 0 < l.getD k 0) || (l.getD k 0 == l.getD i 0 && decide (k < i))

theorem ranksBefore_iff {l : List Nat} {k i : Nat} : ranksBefore l k i = true ↔
    l.getD i 0 < l.getD k 0 ∨ (l.getD k 0 = l.getD i 0 ∧ k < i) := by
  simp [ranksBefore]

theorem zipIdx_eq_map_range (l : List Nat) :
    l.zipIdx = (List.range l.length).map fun k => (l.getD k 0, k) := by
  apply List.ext_getElem
  · simp
  · intro k h _
    have hk : k < l.length := by simpa using h
    simp [hk]

/-- A place's rank is how many places go before it. -/
theorem rankAt_eq_card (l : List Nat) (i : Nat) :
    rankAt l i = {k ∈ Finset.range l.length | ranksBefore l k i = true}.card := by
  rw [← Nat.count_eq_card_filter_range, Nat.count, rankAt, zipIdx_eq_map_range, List.countP_map]
  simp only [Function.comp_def, Bool.decide_eq_true]
  rfl

theorem rankAt_lt_of_ranksBefore {l : List Nat} {k i : Nat} (hk : k < l.length)
    (h : ranksBefore l k i = true) : rankAt l k < rankAt l i := by
  rw [rankAt_eq_card, rankAt_eq_card]
  apply Finset.card_lt_card
  refine Finset.ssubset_iff_of_subset ?_ |>.2 ⟨k, ?_, ?_⟩
  · intro m hm
    simp only [Finset.mem_filter, ranksBefore_iff] at h hm ⊢
    exact ⟨hm.1, by omega⟩
  · simpa [hk] using h
  · simp [ranksBefore_iff]

theorem ranksBefore_total (l : List Nat) {k i : Nat} (h : k ≠ i) :
    ranksBefore l k i = true ∨ ranksBefore l i k = true := by
  simp only [ranksBefore_iff]
  omega

/-- Ranks order the places as the remainders do. -/
theorem ranksBefore_of_rankAt_lt {l : List Nat} {k i : Nat} (hi : i < l.length)
    (h : rankAt l k < rankAt l i) : ranksBefore l k i = true := by
  have hne : k ≠ i := fun e => by subst e; omega
  rcases ranksBefore_total l hne with h' | h'
  · exact h'
  · have := rankAt_lt_of_ranksBefore hi h'
    omega

theorem rankAt_lt_length {l : List Nat} {i : Nat} (hi : i < l.length) : rankAt l i < l.length := by
  rw [rankAt_eq_card]
  refine lt_of_lt_of_eq (Finset.card_lt_card ?_) (Finset.card_range l.length)
  refine Finset.ssubset_iff_of_subset (Finset.filter_subset _ _) |>.2 ⟨i, ?_, ?_⟩
  · simpa using hi
  · simp [ranksBefore_iff]

theorem rankAt_injOn (l : List Nat) : Set.InjOn (rankAt l) (Finset.range l.length) := by
  intro k hk i hi h
  by_contra hne
  simp only [Finset.coe_range, Set.mem_Iio] at hk hi
  rcases ranksBefore_total l hne with h' | h'
  · have := rankAt_lt_of_ranksBefore hk h'
    omega
  · have := rankAt_lt_of_ranksBefore hi h'
    omega

/-- The ranks of the places are 0 up to one below their number. -/
theorem image_rankAt (l : List Nat) :
    (Finset.range l.length).image (rankAt l) = Finset.range l.length := by
  apply Finset.eq_of_subset_of_card_le
  · intro m hm
    obtain ⟨i, hi, rfl⟩ := Finset.mem_image.1 hm
    exact Finset.mem_range.2 (rankAt_lt_length (Finset.mem_range.1 hi))
  · rw [Finset.card_image_of_injOn (rankAt_injOn l)]

/-- As many places rank below a bound as the bound says. -/
theorem countP_rankAt_lt {l : List Nat} {m : Nat} (hm : m ≤ l.length) :
    (List.range l.length).countP (fun i => decide (rankAt l i < m)) = m := by
  have h : (List.range l.length).countP (fun i => decide (rankAt l i < m))
      = {i ∈ Finset.range l.length | rankAt l i < m}.card := by
    rw [← Nat.count_eq_card_filter_range, Nat.count]
  have himage : {i ∈ Finset.range l.length | rankAt l i < m}.image (rankAt l) = Finset.range m := by
    rw [← Finset.filter_image (p := (· < m)), image_rankAt]
    ext k
    simp only [Finset.mem_filter, Finset.mem_range]
    omega
  have hinj := (rankAt_injOn l).mono
    (Finset.coe_subset.2 (Finset.filter_subset (fun i => rankAt l i < m) _))
  rw [h, ← Finset.card_image_of_injOn hinj, himage, Finset.card_range]

/-- A place whose remainder is 0 ranks after every place whose remainder is not. -/
theorem countP_pos_le_rankAt {l : List Nat} {i : Nat} (h : l.getD i 0 = 0) :
    l.countP (0 < ·) ≤ rankAt l i := by
  have hl : l.countP (0 < ·) = (l.zipIdx.map Prod.fst).countP (0 < ·) := by
    rw [List.zipIdx_map_fst]
  rw [hl, List.countP_map, rankAt]
  refine List.countP_mono_left ?_
  intro x _ hx
  simp only [h, Function.comp_apply, decide_eq_true_eq] at hx ⊢
  simp [hx]

/-! ### First parts and remainders -/

theorem sum_le_mul_countP_pos {l : List Nat} {b : Nat} (h : ∀ x ∈ l, x ≤ b) :
    l.sum ≤ b * l.countP (0 < ·) := by
  induction l with
  | nil => simp
  | cons x l ih =>
    have hx := h x (by simp)
    have hl := ih fun y hy => h y (by simp [hy])
    rw [List.sum_cons, List.countP_cons]
    by_cases hpos : 0 < x
    · simp only [hpos, decide_true, if_true, Nat.mul_add]
      omega
    · simp only [hpos, decide_false]
      simp only [Bool.false_eq_true, if_false, Nat.add_zero]
      omega

/-- The first parts and the remainders are what the products divide into. -/
theorem total_mul_sum_firstPart (cut total : Nat) (l : List Nat) :
    total * (l.map (firstPart cut total)).sum + (l.map (remainder cut total)).sum = cut * l.sum := by
  induction l with
  | nil => simp
  | cons a l ih =>
    have := Nat.div_add_mod (cut * a) total
    simp only [List.map_cons, List.sum_cons, Nat.mul_add, firstPart, remainder] at ih ⊢
    omega

theorem countP_remainder_le (cut total : Nat) (l : List Nat) :
    (l.map (remainder cut total)).countP (0 < ·) ≤ l.countP (0 < ·) := by
  rw [List.countP_map]
  refine List.countP_mono_left ?_
  intro a _ h
  rcases Nat.eq_zero_or_pos a with rfl | ha
  · simp [remainder] at h
  · simpa using ha

/-- One for each element of a list that meets a test add up to how many do. -/
theorem sum_map_ite_eq_countP {α : Type} (p : α → Prop) [DecidablePred p] (l : List α) :
    (l.map fun x => if p x then 1 else 0).sum = l.countP p := by
  induction l with
  | nil => rfl
  | cons x l ih => by_cases h : p x <;> simp [h, ih, Nat.add_comm]

theorem map_fst_zipIdx {α β : Type} (f : α → β) (l : List α) :
    (l.zipIdx.map fun e => f e.1) = l.map f := by
  conv_rhs => rw [← List.zipIdx_map_fst 0 l, List.map_map]
  rfl

section Shared

variable {cut : Nat} {slacks : List Nat}

/-- The minutes that remain once every entry has its first part (R41). -/
def minutesLeft (cut : Nat) (slacks : List Nat) : Nat :=
  cut - (slacks.map (firstPart cut slacks.sum)).sum

theorem sum_firstPart_add_minutesLeft (hpos : 0 < slacks.sum) :
    (slacks.map (firstPart cut slacks.sum)).sum + minutesLeft cut slacks = cut := by
  have h := total_mul_sum_firstPart cut slacks.sum slacks
  have : slacks.sum * (slacks.map (firstPart cut slacks.sum)).sum ≤ slacks.sum * cut := by
    rw [Nat.mul_comm slacks.sum cut]
    omega
  have := Nat.le_of_mul_le_mul_left this hpos
  unfold minutesLeft
  omega

/-- The minutes that remain are the remainders, in whole shares. -/
theorem total_mul_minutesLeft (hpos : 0 < slacks.sum) :
    slacks.sum * minutesLeft cut slacks = (slacks.map (remainder cut slacks.sum)).sum := by
  have h := total_mul_sum_firstPart cut slacks.sum slacks
  have h' := congrArg (slacks.sum * ·) (sum_firstPart_add_minutesLeft (cut := cut) hpos)
  simp only [Nat.mul_add] at h'
  rw [Nat.mul_comm slacks.sum cut] at h'
  omega

theorem total_mul_minutesLeft_le (hpos : 0 < slacks.sum) :
    slacks.sum * minutesLeft cut slacks
      ≤ (slacks.sum - 1) * (slacks.map (remainder cut slacks.sum)).countP (0 < ·) := by
  rw [total_mul_minutesLeft hpos]
  apply sum_le_mul_countP_pos
  intro x hx
  obtain ⟨a, -, rfl⟩ := List.mem_map.1 hx
  exact Nat.le_sub_one_of_lt (Nat.mod_lt _ hpos)

theorem minutesLeft_le_countP (hpos : 0 < slacks.sum) :
    minutesLeft cut slacks ≤ (slacks.map (remainder cut slacks.sum)).countP (0 < ·) :=
  Nat.le_of_mul_le_mul_left
    ((total_mul_minutesLeft_le hpos).trans (Nat.mul_le_mul_right _ (Nat.sub_le _ _))) hpos

/-- Fewer minutes remain than entries have slack. -/
theorem minutesLeft_lt_countP (hpos : 0 < slacks.sum) :
    minutesLeft cut slacks < slacks.countP (0 < ·) := by
  have hsome : 0 < slacks.countP (0 < ·) := by
    by_contra h
    have := sum_le_mul_countP_pos (l := slacks) (b := slacks.sum)
      fun x hx => List.le_sum_of_mem hx
    rw [Nat.eq_zero_of_not_pos h] at this
    omega
  have h := (total_mul_minutesLeft_le hpos).trans
    (Nat.mul_le_mul_left (slacks.sum - 1) (countP_remainder_le cut slacks.sum slacks))
  refine Nat.lt_of_mul_lt_mul_left (a := slacks.sum) (lt_of_le_of_lt h ?_)
  exact Nat.mul_lt_mul_of_pos_right (by omega) hsome

theorem minutesLeft_le_length (hpos : 0 < slacks.sum) :
    minutesLeft cut slacks ≤ slacks.length :=
  (minutesLeft_lt_countP hpos).le.trans List.countP_le_length

theorem firstPart_le (hlt : cut < slacks.sum) (a : Nat) : firstPart cut slacks.sum a ≤ a :=
  Nat.div_le_of_le_mul (Nat.mul_le_mul_right a hlt.le)

theorem firstPart_lt_of_remainder_pos (hlt : cut < slacks.sum) {a : Nat}
    (h : 0 < remainder cut slacks.sum a) :
    firstPart cut slacks.sum a < a := by
  have ha : 0 < a := by
    rcases Nat.eq_zero_or_pos a with rfl | ha
    · simp [remainder] at h
    · exact ha
  exact Nat.div_lt_of_lt_mul (Nat.mul_lt_mul_of_pos_right hlt ha)

end Shared

/-! ### The cut of each entry -/

theorem cuts_length (cut : Nat) (slacks : List Nat) : (cuts cut slacks).length = slacks.length := by
  unfold cuts
  dsimp only
  split
  · simp
  · split <;> simp

theorem cuts_zero (slacks : List Nat) : cuts 0 slacks = slacks.map fun _ => 0 := by
  simp [cuts]

theorem cuts_of_sum_le {cut : Nat} {slacks : List Nat} (h : slacks.sum ≤ cut) (hne : cut ≠ 0) :
    cuts cut slacks = slacks := by
  simp [cuts, h, hne]

section Between

variable {cut : Nat} {slacks : List Nat} (hpos : 0 < cut) (hlt : cut < slacks.sum)

include hpos hlt

/-- Below the whole slack, each entry has its first part, and one further minute by its rank (R41). -/
theorem cuts_of_lt_sum : cuts cut slacks = slacks.zipIdx.map fun e =>
    firstPart cut slacks.sum e.1
      + if rankAt (slacks.map (remainder cut slacks.sum)) e.2 < minutesLeft cut slacks
        then 1 else 0 := by
  simp only [cuts, hpos.ne', hlt.not_ge, if_false]
  rfl

theorem getElem?_cuts {i a x : Nat} (ha : slacks[i]? = some a)
    (hx : (cuts cut slacks)[i]? = some x) :
    x = firstPart cut slacks.sum a
      + if rankAt (slacks.map (remainder cut slacks.sum)) i < minutesLeft cut slacks
        then 1 else 0 := by
  rw [cuts_of_lt_sum hpos hlt] at hx
  simp [ha] at hx
  exact hx.symm

theorem sum_cuts_of_lt_sum : (cuts cut slacks).sum = cut := by
  have hrank := countP_rankAt_lt (l := slacks.map (remainder cut slacks.sum))
    (m := minutesLeft cut slacks) (by simpa using minutesLeft_le_length (by omega))
  rw [List.length_map] at hrank
  have hmore : (slacks.zipIdx.map fun e =>
      if rankAt (slacks.map (remainder cut slacks.sum)) e.2 < minutesLeft cut slacks
        then 1 else 0).sum = minutesLeft cut slacks := by
    rw [sum_map_ite_eq_countP, zipIdx_eq_map_range, List.countP_map]
    exact hrank
  rw [cuts_of_lt_sum hpos hlt, List.sum_map_add,
    map_fst_zipIdx (firstPart cut slacks.sum), hmore]
  exact sum_firstPart_add_minutesLeft (by omega)

/-- An entry given a further minute has a remainder. -/
theorem remainder_pos_of_rankAt_lt {i a : Nat} (ha : slacks[i]? = some a)
    (h : rankAt (slacks.map (remainder cut slacks.sum)) i < minutesLeft cut slacks) :
    0 < remainder cut slacks.sum a := by
  by_contra h0
  have hzero : (slacks.map (remainder cut slacks.sum)).getD i 0 = 0 := by
    simp [ha, Nat.eq_zero_of_not_pos h0]
  have := countP_pos_le_rankAt hzero
  have := minutesLeft_le_countP (cut := cut) (slacks := slacks) (by omega)
  omega

theorem getElem?_cuts_le {i a x : Nat} (ha : slacks[i]? = some a)
    (hx : (cuts cut slacks)[i]? = some x) : x ≤ a := by
  rw [getElem?_cuts hpos hlt ha hx]
  split
  · next h => exact firstPart_lt_of_remainder_pos hlt (remainder_pos_of_rankAt_lt hpos hlt ha h)
  · exact firstPart_le hlt a

/-- Of two entries of which one has a further minute and the other has not, the first ranks before the
other. -/
theorem ranksBefore_of_further {i j a b x y : Nat} (ha : slacks[i]? = some a)
    (hb : slacks[j]? = some b) (hx : (cuts cut slacks)[i]? = some x)
    (hy : (cuts cut slacks)[j]? = some y) (hx' : x = firstPart cut slacks.sum a + 1)
    (hy' : y = firstPart cut slacks.sum b) :
    ranksBefore (slacks.map (remainder cut slacks.sum)) i j = true := by
  have hlen : j < slacks.length := (List.getElem?_eq_some_iff.1 hb).1
  rw [getElem?_cuts hpos hlt ha hx] at hx'
  rw [getElem?_cuts hpos hlt hb hy] at hy'
  apply ranksBefore_of_rankAt_lt (by simpa using hlen)
  split at hx' <;> split at hy' <;> omega

end Between

/-- No cut is above its entry's slack (R41). -/
theorem cuts_le {cut : Nat} {slacks : List Nat} {i a x : Nat} (ha : slacks[i]? = some a)
    (hx : (cuts cut slacks)[i]? = some x) : x ≤ a := by
  rcases Nat.eq_zero_or_pos cut with rfl | hpos
  · rw [cuts_zero, List.getElem?_map, ha] at hx
    cases hx
    exact Nat.zero_le _
  · rcases Nat.lt_or_ge cut slacks.sum with hlt | hle
    · exact getElem?_cuts_le hpos hlt ha hx
    · rw [cuts_of_sum_le hle hpos.ne', ha] at hx
      cases hx
      exact le_rfl

/-- The cuts add up to the smaller of C and the whole slack (R41). -/
theorem sum_cuts (cut : Nat) (slacks : List Nat) :
    (cuts cut slacks).sum = min cut slacks.sum := by
  rcases Nat.eq_zero_or_pos cut with rfl | hpos
  · simp [cuts_zero]
  · rcases Nat.lt_or_ge cut slacks.sum with hlt | hle
    · rw [sum_cuts_of_lt_sum hpos hlt]
      omega
    · rw [cuts_of_sum_le hle hpos.ne']
      omega

/-- Of two entries of which one alone has a further minute, it is that of the larger remainder, or the
earlier of equal ones (R41). -/
theorem further_minute_by_remainder {cut : Nat} {slacks : List Nat} (hpos : 0 < cut)
    (hlt : cut < slacks.sum) {i j a b x y : Nat} (hij : i < j) (ha : slacks[i]? = some a)
    (hb : slacks[j]? = some b) (hx : (cuts cut slacks)[i]? = some x)
    (hy : (cuts cut slacks)[j]? = some y) :
    (y = firstPart cut slacks.sum b + 1 → x = firstPart cut slacks.sum a →
        remainder cut slacks.sum a < remainder cut slacks.sum b)
      ∧ (x = firstPart cut slacks.sum a + 1 → y = firstPart cut slacks.sum b →
        remainder cut slacks.sum b ≤ remainder cut slacks.sum a) := by
  constructor
  · intro hy' hx'
    have h := ranksBefore_iff.1 (ranksBefore_of_further hpos hlt hb ha hy hx hy' hx')
    simp [ha, hb] at h
    omega
  · intro hx' hy'
    have h := ranksBefore_iff.1 (ranksBefore_of_further hpos hlt ha hb hx hy hx' hy')
    simp [ha, hb] at h
    omega

/-- Settles O33: every place has a rank of its own, so the minutes left after the first parts are all
given, each to an entry with a remainder. -/
theorem cutsShareTheMinutesExactly : Obligations.CutsShareTheMinutesExactly := by
  refine ⟨fun cut slacks => ⟨cuts_length cut slacks, ?_, cuts_of_sum_le, sum_cuts cut slacks,
    fun i a x => cuts_le, fun hpos hlt => ⟨minutesLeft_lt_countP (by omega), ?_, ?_⟩⟩, ?_⟩
  · rintro rfl x hx
    obtain ⟨a, -, rfl⟩ := List.mem_map.1 (cuts_zero slacks ▸ hx)
    rfl
  · intro i a x ha hx
    rw [getElem?_cuts hpos hlt ha hx]
    split
    · exact .inr rfl
    · exact .inl rfl
  · intro i j a b x y hij ha hb hx hy
    exact further_minute_by_remainder hpos hlt hij ha hb hx hy
  · rintro u delay early c rfl
    refine ⟨rfl, rfl, ?_⟩
    rw [sum_cuts]
    simp only [passResult, PlanTable.totalSlack]
    omega

end TimetableLaws

end Sys2Proof.Machine
end

section
/-! SUPPORT. The compression computation (R39 to R43): entries laid one after another, what the relaying
of R42 makes of each entry and of the whole list, and the delay of R39. -/

namespace Sys2Proof.Machine

open Sys2Proof

/-- An entry as R42 lays it from a start with a cut: as it was when begun, and shortened by its cut
otherwise. -/
def EffEntry.relaid (e : EffEntry) (start cut : Nat) : EffEntry :=
  if e.begun then e else { e with start := start, length := e.length - cut }

/-- The entries of a table, each with its cut (R41). -/
def PlanTable.withCuts (u : PlanTable) (cut : Nat) : List (EffEntry × Nat) :=
  u.entries.zip (cuts cut (u.entries.map EffEntry.slack))

/-- Whether a delay keeps a session's close minute, if it is not yet fixed, within running minute 2879
(R39). -/
def PlanTable.closeFits (u : PlanTable) (early delay : Nat) (x : Session) : Bool :=
  match u.session x with
  | some r => r.fixedClose.isSome || ((compress u delay early).closeMinute x).all
      fun m => decide (m ≤ Config.lastRunningMinute)
  | none => true

namespace TimetableLaws

/-! ### Slack -/

theorem slack_of_future {e : EffEntry} (h : e.begun = false) (hc : e.entry.compressible = true) :
    e.slack = e.length - e.entry.floor := by
  simp [EffEntry.slack, h, hc]

theorem slack_of_fixed {e : EffEntry} (h : e.begun = true ∨ e.entry.compressible = false) :
    e.slack = 0 := by
  rcases h with h | h <;> simp [EffEntry.slack, h]

theorem slack_le (e : EffEntry) : e.slack ≤ e.length - e.entry.floor := by
  unfold EffEntry.slack
  split <;> omega

/-! ### Entries laid one after another -/

theorem laidFrom_cons {start : Nat} {e : EffEntry} {rest : List EffEntry} :
    laidFrom start (e :: rest) ↔ e.start = start ∧ 1 ≤ e.entry.floor ∧ e.entry.floor ≤ e.length
      ∧ e.length ≤ e.entry.nominal ∧ (e.begun = false → ∀ x ∈ rest, x.begun = false)
      ∧ laidFrom (start + e.length) rest := Iff.rfl

/-- The last of some laid entries ends where their lengths add up to (R43). -/
theorem getLast?_ends_of_laidFrom {start : Nat} {l : List EffEntry} (h : laidFrom start l)
    (hne : l ≠ []) :
    l.getLast?.map EffEntry.ends = some (start + (l.map (·.length)).sum) := by
  induction l generalizing start with
  | nil => exact absurd rfl hne
  | cons e rest ih =>
    obtain ⟨rfl, -, -, -, -, hrest⟩ := laidFrom_cons.1 h
    cases rest with
    | nil => simp [EffEntry.ends]
    | cons x rest =>
      rw [List.getLast?_cons_cons, ih hrest (by simp)]
      simp [Nat.add_assoc]

theorem start_eq_of_laidFrom {start : Nat} {l : List EffEntry} (h : laidFrom start l)
    (hne : l ≠ []) : (l.head?.map (·.start)).getD 0 = start := by
  cases l with
  | nil => exact absurd rfl hne
  | cons e rest => exact (laidFrom_cons.1 h).1

/-- In some laid entries none is begun once the first is not (R43). -/
theorem begun_eq_false_of_laidFrom {start : Nat} {e : EffEntry} {rest : List EffEntry}
    (h : laidFrom start (e :: rest)) (he : e.begun = false) : ∀ x ∈ e :: rest, x.begun = false := by
  obtain ⟨-, -, -, -, hbegun, -⟩ := laidFrom_cons.1 h
  exact List.forall_mem_cons.2 ⟨he, hbegun he⟩

/-! ### Relaying (R42) -/

/-- An entry laid again keeps what the plan stored of it and its begun flag. -/
@[simp] theorem relaid_entry (e : EffEntry) (start cut : Nat) :
    (e.relaid start cut).entry = e.entry := by
  unfold EffEntry.relaid
  split <;> rfl

@[simp] theorem relaid_begun (e : EffEntry) (start cut : Nat) :
    (e.relaid start cut).begun = e.begun := by
  unfold EffEntry.relaid
  split <;> rfl

theorem relaid_of_begun {e : EffEntry} (h : e.begun = true) (start cut : Nat) :
    e.relaid start cut = e := by
  simp [EffEntry.relaid, h]

theorem relaid_of_future {e : EffEntry} (h : e.begun = false) (start cut : Nat) :
    e.relaid start cut = { e with start := start, length := e.length - cut } := by
  simp [EffEntry.relaid, h]

/-- An entry loses its cut, when the cut is within its slack. -/
theorem relaid_length {e : EffEntry} {cut : Nat} (h : cut ≤ e.slack) (start : Nat) :
    (e.relaid start cut).length = e.length - cut := by
  cases hb : e.begun with
  | true =>
    rw [relaid_of_begun hb]
    rw [slack_of_fixed (.inl hb)] at h
    omega
  | false => rw [relaid_of_future hb]

/-- Relaying lays each entry, and the next from its end (R42). -/
theorem relay_cons (start : Nat) (e : EffEntry) (cut : Nat) (rest : List (EffEntry × Nat)) :
    relay start ((e, cut) :: rest)
      = e.relaid start cut :: relay (e.relaid start cut).ends rest := by
  cases hb : e.begun with
  | true => simp [relay, EffEntry.relaid, hb]
  | false => simp [relay, EffEntry.relaid, hb, EffEntry.ends]

theorem relay_map {β : Type} {f : EffEntry → β} (hf : ∀ e start cut, f (e.relaid start cut) = f e)
    (start : Nat) (l : List (EffEntry × Nat)) :
    (relay start l).map f = (l.map Prod.fst).map f := by
  induction l generalizing start with
  | nil => rfl
  | cons p rest ih => rw [relay_cons, List.map_cons, hf, ih]; rfl

/-- Relaying begins no entry and ends none. -/
theorem relay_begun (start : Nat) (l : List (EffEntry × Nat)) :
    (relay start l).map (·.begun) = (l.map Prod.fst).map (·.begun) :=
  relay_map relaid_begun start l

theorem relay_begun_false {l : List (EffEntry × Nat)} (h : ∀ p ∈ l, p.1.begun = false)
    (start : Nat) : ∀ x ∈ relay start l, x.begun = false := by
  intro x hx
  have hmem : x.begun ∈ (l.map Prod.fst).map (·.begun) :=
    relay_begun start l ▸ List.mem_map_of_mem hx
  simp only [List.map_map, List.mem_map] at hmem
  obtain ⟨p, hp, hpx⟩ := hmem
  exact hpx ▸ h p hp

@[simp] theorem relay_length (start : Nat) (l : List (EffEntry × Nat)) :
    (relay start l).length = l.length := by
  simpa using congrArg List.length (relay_begun start l)

theorem getElem?_relay {l : List (EffEntry × Nat)} {i : Nat} {e : EffEntry} {cut : Nat}
    (h : l[i]? = some (e, cut)) (start : Nat) :
    ∃ start', (relay start l)[i]? = some (e.relaid start' cut) := by
  induction l generalizing i start with
  | nil => cases h
  | cons p rest ih =>
    rw [relay_cons]
    cases i with
    | zero => cases h; exact ⟨start, rfl⟩
    | succ i => exact ih h _

theorem relay_of_begun {l : List (EffEntry × Nat)} (h : ∀ p ∈ l, p.1.begun = true) (start : Nat) :
    relay start l = l.map Prod.fst := by
  induction l generalizing start with
  | nil => rfl
  | cons p rest ih =>
    obtain ⟨hp, hrest⟩ := List.forall_mem_cons.1 h
    rw [relay_cons, relaid_of_begun hp, ih hrest, List.map_cons]

section WithinSlack

variable {l : List (EffEntry × Nat)} (hcuts : ∀ p ∈ l, p.2 ≤ p.1.slack)

include hcuts

/-- The lengths lose what the cuts take (R42). -/
theorem sum_length_relay (start : Nat) :
    ((relay start l).map (·.length)).sum + (l.map Prod.snd).sum
      = ((l.map Prod.fst).map (·.length)).sum := by
  induction l generalizing start with
  | nil => rfl
  | cons p rest ih =>
    obtain ⟨hp, hrest⟩ := List.forall_mem_cons.1 hcuts
    have := ih hrest (p.1.relaid start p.2).ends
    have hlen := slack_le p.1
    rw [relay_cons]
    simp only [List.map_cons, List.sum_cons, relaid_length hp]
    omega

/-- Relaying keeps entries laid, from where they began or, when none has begun, from anywhere
(R43). -/
theorem laidFrom_relay {start start' : Nat} (hlaid : laidFrom start (l.map Prod.fst))
    (hstart : start' = start ∨ ∀ p ∈ l, p.1.begun = false) : laidFrom start' (relay start' l) := by
  induction l generalizing start start' with
  | nil => trivial
  | cons p rest ih =>
    obtain ⟨e, cut⟩ := p
    obtain ⟨hcut, hcuts⟩ := List.forall_mem_cons.1 hcuts
    have hfuture : e.begun = false → ∀ p ∈ rest, p.1.begun = false := fun h p hp =>
      begun_eq_false_of_laidFrom hlaid h p.1 (List.mem_cons_of_mem _ (List.mem_map_of_mem hp))
    obtain ⟨hs, h1, hfloor, hnominal, -, hrest⟩ := laidFrom_cons.1 hlaid
    have hlen : (e.relaid start' cut).length = e.length - cut := relaid_length hcut start'
    have hslack : cut ≤ e.length - e.entry.floor := hcut.trans (slack_le e)
    have hbegun : e.begun = true → start' = start ∧ cut = 0 := fun hb => by
      have hcut0 : cut ≤ 0 := hcut.trans_eq (slack_of_fixed (.inl hb))
      rcases hstart with h | h
      · exact ⟨h, by omega⟩
      · rw [h _ List.mem_cons_self] at hb; cases hb
    have hfirst : (e.relaid start' cut).start = start' := by
      cases hb : e.begun with
      | false => rw [relaid_of_future hb]
      | true => rw [relaid_of_begun hb]; exact hs.trans (hbegun hb).1.symm
    simp only at hfloor hnominal h1
    rw [relay_cons, laidFrom_cons, relaid_entry, relaid_begun, hlen]
    refine ⟨hfirst, h1, by omega, by omega, fun hb => relay_begun_false (hfuture hb) _, ?_⟩
    rw [EffEntry.ends, hfirst, hlen]
    refine ih hcuts hrest ?_
    cases hb : e.begun with
    | false => exact .inr (hfuture hb)
    | true => obtain ⟨rfl, rfl⟩ := hbegun hb; exact .inl rfl

end WithinSlack

/-! ### The new table (R42, R43) -/

theorem withCuts_map_fst (u : PlanTable) (cut : Nat) :
    (u.withCuts cut).map Prod.fst = u.entries :=
  List.map_fst_zip (by simp [cuts_length])

theorem withCuts_map_snd (u : PlanTable) (cut : Nat) :
    (u.withCuts cut).map Prod.snd = cuts cut (u.entries.map EffEntry.slack) :=
  List.map_snd_zip (by simp [cuts_length])

theorem getElem?_withCuts {u : PlanTable} {i : Nat} {e : EffEntry} (h : u.entries[i]? = some e)
    (cut : Nat) : ∃ x, (cuts cut (u.entries.map EffEntry.slack))[i]? = some x
      ∧ (u.withCuts cut)[i]? = some (e, x) := by
  have hi : i < (cuts cut (u.entries.map EffEntry.slack)).length := by
    simpa [cuts_length] using (List.getElem?_eq_some_iff.1 h).1
  exact ⟨_, List.getElem?_eq_getElem hi,
    List.getElem?_zip_eq_some.2 ⟨h, List.getElem?_eq_getElem hi⟩⟩

theorem withCuts_le_slack (u : PlanTable) (cut : Nat) : ∀ p ∈ u.withCuts cut, p.2 ≤ p.1.slack := by
  intro p hp
  obtain ⟨i, hi⟩ := List.mem_iff_getElem?.1 hp
  obtain ⟨he, hx⟩ := List.getElem?_zip_eq_some.1 hi
  exact cuts_le (by rw [List.getElem?_map, he]; rfl) hx

theorem forall_withCuts {u : PlanTable} {q : EffEntry → Prop} (h : ∀ e ∈ u.entries, q e)
    (cut : Nat) : ∀ p ∈ u.withCuts cut, q p.1 := fun p hp =>
  h p.1 (withCuts_map_fst u cut ▸ List.mem_map_of_mem hp)

section Compress

variable (u : PlanTable) (delay early : Nat)

theorem compress_entries : (compress u delay early).entries
    = relay ((u.entries.head?.map (·.start)).getD 0 + delay) (u.withCuts (delay + early)) := rfl

@[simp] theorem compress_session (x : Session) :
    (compress u delay early).session x = u.session x := by
  cases x <;> rfl

@[simp] theorem compress_entries_length :
    (compress u delay early).entries.length = u.entries.length := by
  rw [compress_entries, relay_length, ← withCuts_map_fst u (delay + early), List.length_map]

theorem compress_map_entry :
    (compress u delay early).entries.map (·.entry) = u.entries.map (·.entry) := by
  rw [compress_entries, relay_map relaid_entry, withCuts_map_fst]

/-- The new length of an entry is its length less its own cut, and a begun entry stays (R42). -/
theorem getElem?_compress {u : PlanTable} {i : Nat} {e : EffEntry} (h : u.entries[i]? = some e) :
    ∃ x start, (cuts (delay + early) (u.entries.map EffEntry.slack))[i]? = some x
      ∧ (compress u delay early).entries[i]? = some (e.relaid start x) := by
  obtain ⟨x, hx, hp⟩ := getElem?_withCuts h (delay + early)
  obtain ⟨start, hv⟩ := getElem?_relay hp _
  exact ⟨x, start, hx, hv⟩

/-- The lengths lose the cut total, the smaller of the cut and the whole slack. -/
theorem sum_length_compress : ((compress u delay early).entries.map (·.length)).sum
      + min (delay + early) (u.entries.map EffEntry.slack).sum
    = (u.entries.map (·.length)).sum := by
  have h := sum_length_relay (withCuts_le_slack u (delay + early))
    ((u.entries.head?.map (·.start)).getD 0 + delay)
  rwa [withCuts_map_fst, withCuts_map_snd, sum_cuts, ← compress_entries] at h

theorem compress_effEnd_of_begun (h : ∀ e ∈ u.entries, e.begun = true) :
    (compress u delay early).effEnd = u.effEnd := by
  have hall : u.entries.all (·.begun) = true := by simpa using h
  simp [compress, hall]

theorem compress_entries_of_begun (h : ∀ e ∈ u.entries, e.begun = true) :
    (compress u delay early).entries = u.entries := by
  rw [compress_entries, relay_of_begun (forall_withCuts h _), withCuts_map_fst]

end Compress

section Laid

variable {u : PlanTable} {delay : Nat} (early : Nat)
  (hdelay : delay = 0 ∨ ∀ e ∈ u.entries, e.begun = false)

include hdelay

theorem laidFrom_compress {start : Nat} (hne : u.entries ≠ []) (h : laidFrom start u.entries) :
    laidFrom (start + delay) (compress u delay early).entries := by
  rw [compress_entries, start_eq_of_laidFrom h hne]
  refine laidFrom_relay (withCuts_le_slack u _) (start := start) ?_ ?_
  · rwa [withCuts_map_fst]
  · rcases hdelay with rfl | hfuture
    · exact .inl rfl
    · exact .inr (forall_withCuts hfuture _)

theorem compress_effEnd {start : Nat} (hne : u.entries ≠ []) (h : laidFrom start u.entries)
    (hend : u.effEnd = start + (u.entries.map (·.length)).sum) :
    (compress u delay early).effEnd
      = start + delay + ((compress u delay early).entries.map (·.length)).sum := by
  by_cases hall : ∀ e ∈ u.entries, e.begun = true
  · rw [compress_effEnd_of_begun u delay early hall, compress_entries_of_begun u delay early hall,
      hend]
    rcases hdelay with rfl | hfuture
    · rfl
    · obtain ⟨e, rest, he⟩ := List.exists_cons_of_ne_nil hne
      have hmem : e ∈ u.entries := he ▸ List.mem_cons_self
      have := hall e hmem
      rw [hfuture e hmem] at this
      cases this
  · have hnew : (compress u delay early).entries ≠ [] := by
      rw [← List.length_pos_iff, compress_entries_length, List.length_pos_iff]
      exact hne
    have hlast := getLast?_ends_of_laidFrom (laidFrom_compress early hdelay hne h) hnew
    have hall' : u.entries.all (·.begun) = false := by simpa using hall
    have heq : (compress u delay early).effEnd
        = ((compress u delay early).entries.getLast?.map EffEntry.ends).getD u.effEnd := by
      simp [compress, hall']
    rw [heq, hlast, Option.getD_some]

/-- The computation keeps a table laid out (R43). -/
theorem laid_compress (h : u.laid) : (compress u delay early).laid := by
  obtain ⟨start, hne, hlaid, hend⟩ := h
  refine ⟨start + delay, ?_, laidFrom_compress early hdelay hne hlaid,
    compress_effEnd early hdelay hne hlaid hend⟩
  rw [← List.length_pos_iff, compress_entries_length, List.length_pos_iff]
  exact hne

/-- The effective end moves by the delay less the cut total (R42). -/
theorem compress_effEnd_eq (h : u.laid) : (compress u delay early).effEnd
    = u.effEnd + delay - min (delay + early) (u.entries.map EffEntry.slack).sum := by
  obtain ⟨start, hne, hlaid, hend⟩ := h
  have hsum := sum_length_compress u delay early
  rw [compress_effEnd early hdelay hne hlaid hend, hend]
  omega

end Laid

/-! ### The delay applied (R39) -/

theorem delayFits_eq (u : PlanTable) (early delay : Nat) : delayFits u early delay
    = (decide (u.effEnd + delay - min (delay + early) u.totalSlack ≤ Config.lastRunningMinute)
      && u.closeFits early delay .am && u.closeFits early delay .pm) := rfl

/-- A close minute that is not fixed is the registration entry's start plus its grace (R31). -/
theorem closeMinute_of_not_fixed {u : PlanTable} {x : Session} {r : SessionRecord}
    (hr : u.session x = some r) (h : r.fixedClose = none) :
    u.closeMinute x = (u.registration x).map (·.closes) := by
  simp [PlanTable.closeMinute, hr, h]

theorem closeFits_iff (u : PlanTable) (early delay : Nat) (x : Session) :
    u.closeFits early delay x = true ↔ ∀ r e, u.session x = some r → r.fixedClose = none →
      (compress u delay early).registration x = some e →
        e.start + e.entry.grace.getD 0 ≤ 2879 := by
  cases hs : u.session x with
  | none => simp [PlanTable.closeFits, hs]
  | some r =>
    cases hf : r.fixedClose with
    | some m =>
      simp only [PlanTable.closeFits, hs, hf, Option.isSome_some, Bool.true_or, true_iff]
      rintro q e hq hnone
      cases hq
      rw [hf] at hnone
      cases hnone
    | none =>
      have hclose := closeMinute_of_not_fixed ((compress_session u delay early x).trans hs) hf
      cases hreg : (compress u delay early).registration x with
      | none => simp [PlanTable.closeFits, hs, hclose, hreg]
      | some e =>
        simp only [PlanTable.closeFits, hs, hf, hclose, hreg, Option.map_some, Option.all_some,
          Option.isSome_none, Bool.false_or, decide_eq_true_eq]
        constructor
        · rintro h q d - - hd
          cases hd
          exact h
        · exact fun h => h r e rfl hf rfl

theorem delayFits_iff (u : PlanTable) (early d : Nat) : delayFits u early d = true ↔
    u.effEnd + d - min (d + early) (u.entries.map EffEntry.slack).sum ≤ 2879
      ∧ ∀ x r e, u.session x = some r → r.fixedClose = none →
          (compress u d early).registration x = some e → e.start + e.entry.grace.getD 0 ≤ 2879 := by
  rw [delayFits_eq]
  simp only [Bool.and_eq_true, decide_eq_true_eq, closeFits_iff, and_assoc]
  refine and_congr Iff.rfl ⟨fun ⟨ham, hpm⟩ x => ?_, fun h => ⟨h .am, h .pm⟩⟩
  cases x with
  | am => exact ham
  | pm => exact hpm

theorem largestDelay_le (u : PlanTable) (early d : Nat) : largestDelay u early d ≤ d := by
  induction d with
  | zero => exact le_rfl
  | succ d ih => unfold largestDelay; split <;> omega

theorem delayFits_largestDelay {u : PlanTable} {early d : Nat} (h : largestDelay u early d ≠ 0) :
    delayFits u early (largestDelay u early d) = true := by
  induction d with
  | zero => exact absurd rfl h
  | succ d ih =>
    unfold largestDelay at h ⊢
    split
    · next hfits => exact hfits
    · next hfits => exact ih (by simpa [hfits] using h)

theorem not_delayFits_of_largestDelay_lt {u : PlanTable} {early d n : Nat} (hn : n ≤ d)
    (h : largestDelay u early d < n) : delayFits u early n = false := by
  induction d with
  | zero => omega
  | succ d ih =>
    unfold largestDelay at h
    split at h
    · omega
    · next hfits =>
      rcases Nat.lt_or_ge d n with hlt | hle
      · obtain rfl : n = d + 1 := by omega
        simpa using hfits
      · exact ih hle h

theorem delayApplied_of_begun {u : PlanTable} (delay early : Nat)
    (h : ∃ e ∈ u.entries, e.begun = true) : delayApplied u delay early = 0 := by
  have : u.entries.any (·.begun) = true := by simpa using h
  simp [delayApplied, this]

theorem delayApplied_of_future {u : PlanTable} (delay early : Nat)
    (h : ∀ e ∈ u.entries, e.begun = false) :
    delayApplied u delay early = largestDelay u early delay := by
  have : u.entries.any (·.begun) = false := by simpa using h
  simp [delayApplied, this]

/-- A delay is applied to a table that no entry of has begun alone (R39). -/
theorem delayApplied_zero_or_future (u : PlanTable) (delay early : Nat) :
    delayApplied u delay early = 0 ∨ ∀ e ∈ u.entries, e.begun = false := by
  by_cases h : ∃ e ∈ u.entries, e.begun = true
  · exact .inl (delayApplied_of_begun delay early h)
  · exact .inr (by simpa using h)

/-- Settles O34: relaying with cuts within the slacks keeps entries laid, and the delay is searched from
the one asked downwards. -/
theorem compressionKeepsTablesLaid : Obligations.CompressionKeepsTablesLaid := by
  refine ⟨fun e => ⟨fun hb hc => slack_of_future hb hc, slack_of_fixed⟩, ?_, ?_, ?_⟩
  · intro u delay early i e he
    obtain ⟨x, start, hx, hv⟩ := getElem?_compress delay early he
    refine ⟨x, _, hx, hv, fun hb => relaid_of_begun hb start x, fun hb => ?_⟩
    rw [relaid_of_future hb]
  · intro u delay early fits hfits
    refine ⟨delayApplied_of_begun delay early, fun hfuture => ?_⟩
    have hfits' : ∀ d, fits d ↔ delayFits u early d = true := fun d =>
      (hfits d).trans (delayFits_iff u early d).symm
    rw [delayApplied_of_future delay early hfuture]
    refine ⟨largestDelay_le u early delay, fun h => (hfits' _).2 (delayFits_largestDelay h), ?_⟩
    intro d hd hlt
    rw [hfits', not_delayFits_of_largestDelay_lt hd hlt]
    exact Bool.false_ne_true
  · intro u delay early hlaid hdelay
    refine ⟨laid_compress early hdelay hlaid, compress_map_entry u delay early, ?_,
      fun _ => compress_effEnd_eq early hdelay hlaid, compress_effEnd_of_begun u delay early⟩
    intro i e he hb
    obtain ⟨x, start, -, hv⟩ := getElem?_compress delay early he
    rwa [relaid_of_begun hb] at hv

end TimetableLaws

end Sys2Proof.Machine
end

section
/-! SUPPORT. SHIFT (R38, R39, R44): the plans of its set, what each of them brings to the reply or to the
recompute, and which of the two a SHIFT taken leads to. -/

namespace Sys2Proof.Machine

open Sys2Proof

namespace TimetableLaws

theorem within_iff {low high n : Nat} : within low high n = true ↔ low ≤ n ∧ n ≤ high := by
  simp [within]

theorem tableOf_plan {s : State} {p : Nat} {u : PlanTable} (h : tableOf s p = some u) :
    u.plan = p := by
  simpa using List.find?_some h

theorem tableOf_mem {s : State} {p : Nat} {u : PlanTable} (h : tableOf s p = some u) :
    u ∈ s.timetable.tables := List.mem_of_find?_eq_some h

/-! ### The plans of the set -/

theorem shiftOk_iff {r : ShiftReq} :
    shiftOk r = true ↔ r.plans ≠ [] ∧ ∀ p ∈ r.plans, 1 ≤ p ∧ p ≤ 8 := by
  simp [shiftOk, within_iff]

theorem shiftOk_eq_false {r : ShiftReq} (h : r.plans = [] ∨ ∃ p ∈ r.plans, p = 0 ∨ 8 < p) :
    shiftOk r = false := by
  rw [Bool.eq_false_iff, Ne, shiftOk_iff]
  rintro ⟨hne, hplans⟩
  rcases h with h | ⟨p, hp, hout⟩
  · exact hne h
  · have := hplans p hp
    omega

theorem mem_planSet {r : ShiftReq} (h : shiftOk r = true) {p : Nat} :
    p ∈ r.planSet ↔ p ∈ r.plans := by
  obtain ⟨-, hplans⟩ := shiftOk_iff.1 h
  simp only [ShiftReq.planSet, List.mem_filter, List.mem_map, List.mem_range,
    List.contains_iff_mem]
  refine ⟨fun ⟨_, hp⟩ => hp, fun hp => ⟨⟨p - 1, ?_⟩, hp⟩⟩
  have := hplans p hp
  omega

/-- The plans of a SHIFT's set are taken in ascending order. -/
theorem planSet_pairwise (r : ShiftReq) : r.planSet.Pairwise (· < ·) :=
  List.Pairwise.filter _ (List.Pairwise.map _ (fun _ _ h => by omega) List.pairwise_lt_range)

/-! ### What a plan of the set brings -/

section Plan

variable {s : State} {delay early p : Nat}

theorem passFor_eq_some {x : Pass} : passFor s delay early p = some x ↔
    ∃ u, tableOf s p = some u ∧ 0 < delayApplied u delay early + early ∧ x = ⟨p, u, none⟩ := by
  simp only [passFor, Option.bind_eq_some_iff]
  refine exists_congr fun u => and_congr_right fun _ => ?_
  split
  · next h => simp [h]
  · next h => simp [Nat.pos_of_ne_zero h, eq_comm]

theorem unchangedFigures_of_tableOf {u : PlanTable} (h : tableOf s p = some u) :
    unchangedFigures u
      = ⟨p, true, 0, 0, 0, 0, 0, u.effEnd, u.delayTotal, u.earlyTotal, u.shortTotal⟩ := by
  rw [unchangedFigures, tableOf_plan h]

theorem settledFigures_eq_some {x : ShiftFigures} : settledFigures s delay early p = some x ↔
    (tableOf s p = none ∧ x = ⟨p, false, 0, 0, 0, 0, 0, 0, 0, 0, 0⟩)
      ∨ ∃ u, tableOf s p = some u ∧ delayApplied u delay early + early = 0
        ∧ x = ⟨p, true, 0, 0, 0, 0, 0, u.effEnd, u.delayTotal, u.earlyTotal, u.shortTotal⟩ := by
  cases h : tableOf s p with
  | none => simp [settledFigures, h, unusedFigures, eq_comm]
  | some u =>
    simp only [settledFigures, h, unchangedFigures_of_tableOf h, Option.ite_none_right_eq_some,
      Option.some.injEq, reduceCtorEq, false_and, false_or, exists_eq_left', @eq_comm _ x]

/-- The figures a plan brings at once are its own. -/
theorem settledFigures_plan {x : ShiftFigures} (h : settledFigures s delay early p = some x) :
    x.plan = p := by
  rcases settledFigures_eq_some.1 h with ⟨-, rfl⟩ | ⟨u, -, -, rfl⟩ <;> rfl

theorem settledReduced_iff : settledReduced s delay early p = true ↔
    ∃ u, tableOf s p = some u ∧ delayApplied u delay early + early = 0 ∧ delay ≠ 0 := by
  simp only [settledReduced, Option.any_eq_true, Bool.and_eq_true, beq_iff_eq, bne_iff_ne]
  refine exists_congr fun u => and_congr_right fun _ => and_congr_right fun h => ?_
  omega

end Plan

/-! ### SHIFT taken -/

/-- The figures of the plans of a SHIFT's set that do not join (R38). -/
def shiftSettled (s : State) (r : ShiftReq) : List ShiftFigures :=
  r.planSet.filterMap (settledFigures s (min r.delay 180) (min r.early 180))

/-- The passes a SHIFT starts (R38). -/
def shiftPasses (s : State) (r : ShiftReq) : List Pass :=
  r.planSet.filterMap (passFor s (min r.delay 180) (min r.early 180))

/-- The adjusted flag of a SHIFT as it is taken (R38, R39). -/
def shiftAdjusted (s : State) (r : ShiftReq) : Bool :=
  decide (180 < r.delay) || decide (180 < r.early)
    || r.planSet.any (settledReduced s (min r.delay 180) (min r.early 180))

theorem takeShift_of_no_pass {s : State} {r : ShiftReq} (h : shiftPasses s r = []) (p : PortId) :
    takeShift p r s = answer p .ok (shiftAdjusted s r) (.shifted (shiftSettled s r)) s := by
  unfold shiftPasses at h
  simp only [takeShift, h]
  rfl

theorem takeShift_of_passes {s : State} {r : ShiftReq} (h : shiftPasses s r ≠ []) (p : PortId) :
    takeShift p r s = setRecompute (some ⟨p, min r.delay 180, min r.early 180, shiftAdjusted s r,
      shiftSettled s r, shiftPasses s r⟩) s := by
  obtain ⟨x, rest, hx⟩ := List.exists_cons_of_ne_nil h
  rw [hx]
  unfold shiftPasses at hx
  simp only [takeShift, hx]
  rfl

section Taken

variable {s : State} {r : ShiftReq} (hok : shiftOk r = true)

include hok

theorem mem_shiftPasses {x : Pass} : x ∈ shiftPasses s r ↔ ∃ p ∈ r.plans, ∃ u,
    tableOf s p = some u ∧ 0 < delayApplied u (min r.delay 180) (min r.early 180) + min r.early 180
      ∧ x = ⟨p, u, none⟩ := by
  simp only [shiftPasses, List.mem_filterMap, mem_planSet hok, passFor_eq_some]

theorem mem_shiftSettled {x : ShiftFigures} : x ∈ shiftSettled s r ↔ ∃ p ∈ r.plans,
    (tableOf s p = none ∧ x = ⟨p, false, 0, 0, 0, 0, 0, 0, 0, 0, 0⟩)
      ∨ ∃ u, tableOf s p = some u
        ∧ delayApplied u (min r.delay 180) (min r.early 180) + min r.early 180 = 0
        ∧ x = ⟨p, true, 0, 0, 0, 0, 0, u.effEnd, u.delayTotal, u.earlyTotal, u.shortTotal⟩ := by
  simp only [shiftSettled, List.mem_filterMap, mem_planSet hok, settledFigures_eq_some]

theorem shiftAdjusted_iff : shiftAdjusted s r = true ↔ 180 < r.delay ∨ 180 < r.early
    ∨ ∃ p ∈ r.plans, ∃ u, tableOf s p = some u
      ∧ delayApplied u (min r.delay 180) (min r.early 180) + min r.early 180 = 0
      ∧ min r.delay 180 ≠ 0 := by
  simp only [shiftAdjusted, Bool.or_eq_true, decide_eq_true_eq, List.any_eq_true, mem_planSet hok,
    settledReduced_iff, or_assoc]

end Taken

/-- The figures settled at once go in ascending plan order. -/
theorem shiftSettled_pairwise (s : State) (r : ShiftReq) :
    (shiftSettled s r).Pairwise (fun a b => a.plan < b.plan) := by
  refine List.Pairwise.filterMap _ (fun p q hpq x hx y hy => ?_) (planSet_pairwise r)
  rw [settledFigures_plan hx, settledFigures_plan hy]
  exact hpq

/-! ### SHIFT by the day state -/

section Gate

variable {s : State} (p : PortId) (x : Holdable) (taken : State → State)

theorem gateOpen_of_open (h : s.day.state = .open) : gateOpen p x taken s = taken s := by
  simp [gateOpen, h]

theorem gateOpen_of_opening (h : s.day.state = .opening) :
    gateOpen p x taken s = holdRequest p x s := by
  simp [gateOpen, h]

theorem gateOpen_of_shut (h : s.day.state = .closed ∨ s.day.state = .closing) :
    gateOpen p x taken s = refuse p .dayClosed s := by
  rcases h with h | h <;> simp [gateOpen, h]

end Gate

section Serve

variable {s : State} {f : Frame} {r : ShiftReq}

theorem execShift_of_ready (h : Ready s f .shift) :
    exec (.shift f r) s = .next (serveShift f.port r (s.serving f .shift)) :=
  request_of_ready h _

theorem serveShift_refused (h : shiftOk r = false) :
    serveShift f.port r (s.serving f .shift) = s.replied f .shift .badField false .empty := by
  simp [serveShift, h]

theorem serveShift_of_ok (h : shiftOk r = true) (p : PortId) : serveShift p r s
    = gateOpen p (.shift r) (fun s =>
        if s.timetable.recompute.isSome then holdForSwap p (.shift r) s else takeShift p r s) s := by
  simp [serveShift, h]

theorem serveShift_of_open (h : shiftOk r = true) (hday : s.day.state = .open) (p : PortId) :
    serveShift p r s = if s.timetable.recompute.isSome then holdForSwap p (.shift r) s
      else takeShift p r s := by
  rw [serveShift_of_ok h, gateOpen_of_open _ _ _ hday]

theorem serveShift_of_free (h : shiftOk r = true) (hday : s.day.state = .open)
    (hfree : s.timetable.recompute = none) (p : PortId) : serveShift p r s = takeShift p r s := by
  simp [serveShift_of_open h hday, hfree]

end Serve

section Settled

variable {s : State} {f : Frame} {r : ShiftReq} (hok : shiftOk r = true)
  (hfree : s.timetable.recompute = none)

include hok hfree

/-- A SHIFT that no plan of its set joins is answered at once (R38). -/
theorem shift_answered_at_once (hready : Ready s f .shift) (hday : s.day.state = .open)
    (hnone : ∀ p ∈ r.plans, ∀ u, tableOf s p = some u →
      delayApplied u (min r.delay 180) (min r.early 180) + min r.early 180 = 0) :
    exec (.shift f r) s
      = .next (s.replied f .shift .ok (shiftAdjusted s r) (.shifted (shiftSettled s r))) := by
  have hempty : shiftPasses s r = [] := by
    rw [List.eq_nil_iff_forall_not_mem]
    intro x hx
    obtain ⟨p, hp, u, hu, hpos, -⟩ := (mem_shiftPasses hok).1 hx
    have := hnone p hp u hu
    omega
  have hserving : shiftPasses (s.serving f .shift) r = [] := hempty
  rw [execShift_of_ready hready, serveShift_of_free (s := s.serving f .shift) hok hday hfree,
    takeShift_of_no_pass hserving, answer_serving]
  rfl

/-- A SHIFT that some plan of its set joins starts a recompute (R38). -/
theorem shift_starts_recompute (hready : Ready s f .shift) (hday : s.day.state = .open)
    (hsome : shiftPasses s r ≠ []) :
    exec (.shift f r) s = .next (State.serving f .shift { s with timetable := { s.timetable with
      recompute := some ⟨f.port, min r.delay 180, min r.early 180, shiftAdjusted s r,
        shiftSettled s r, shiftPasses s r⟩ } }) := by
  have hserving : shiftPasses (s.serving f .shift) r ≠ [] := hsome
  rw [execShift_of_ready hready, serveShift_of_free (s := s.serving f .shift) hok hday hfree,
    takeShift_of_passes hserving]
  rfl

end Settled

/-- Settles O36, by the checks and the day state in the order a SHIFT meets them; the passes and the
figures are those of the plans of its set, which ascend. -/
theorem shiftStartsARecompute : Obligations.ShiftStartsARecompute := by
  intro s f r hready
  refine ⟨fun h => ?_, fun hne hplans => ?_⟩
  · rw [execShift_of_ready hready, serveShift_refused (shiftOk_eq_false h)]
  have hok : shiftOk r = true := shiftOk_iff.2 ⟨hne, hplans⟩
  refine ⟨fun hday => ?_, fun hday => ?_, fun hday hbusy => ?_, fun hday hfree => ⟨?_, ?_⟩⟩
  · rw [execShift_of_ready hready, serveShift_of_ok hok,
      gateOpen_of_shut (s := s.serving f .shift) _ _ _ hday, refuse_serving]
  · rw [execShift_of_ready hready, serveShift_of_ok hok,
      gateOpen_of_opening (s := s.serving f .shift) _ _ _ hday]
    rfl
  · have hbusy' : (s.serving f .shift).timetable.recompute.isSome = true := hbusy
    rw [execShift_of_ready hready, serveShift_of_open (s := s.serving f .shift) hok hday,
      if_pos hbusy']
    rfl
  · intro hnone
    refine ⟨_, _, shift_answered_at_once hok hfree hready hday hnone, ?_,
      shiftSettled_pairwise s r, fun x => ?_⟩
    · rw [shiftAdjusted_iff hok]
      refine or_congr_right (or_congr_right (exists_congr fun p => and_congr_right fun hp => ?_))
      rw [Option.isSome_iff_exists, ← exists_and_right]
      refine exists_congr fun u => and_congr_right fun hu => ?_
      have := hnone p hp u hu
      omega
    · rw [mem_shiftSettled hok]
      refine exists_congr fun p => and_congr_right fun hp => or_congr_right ?_
      exact exists_congr fun u => and_congr_right fun hu => and_iff_right (hnone p hp u hu)
  · rintro ⟨p, hp, u, hu, hpos⟩
    have hsome := List.ne_nil_of_mem ((mem_shiftPasses hok).2 ⟨p, hp, u, hu, hpos, rfl⟩)
    exact ⟨_, shift_starts_recompute hok hfree hready hday hsome, rfl, rfl, rfl,
      shiftAdjusted_iff hok, fun x => mem_shiftSettled hok, fun x => mem_shiftPasses hok⟩

end TimetableLaws

end Sys2Proof.Machine
end

section
/-! SUPPORT. What the operations of the other blocks leave: the effective timetables, the recompute in
flight, the day state, and whether the close walk is in hand. One lemma for each operation. -/

namespace Sys2Proof.Machine

open Sys2Proof

/-- The parts of the state that R43, R44 and R47 speak of: the effective timetables, the recompute in
flight, the day state, and whether the close walk is in hand. -/
def State.engine (s : State) : List PlanTable × Option Recompute × DayState × Bool :=
  (s.timetable.tables, s.timetable.recompute, s.day.state,
    decide (s.register.walker.hand = some .closeWalk))

namespace TimetableLaws

theorem engine_congr {s t : State} (htables : t.timetable.tables = s.timetable.tables)
    (hrecompute : t.timetable.recompute = s.timetable.recompute)
    (hday : t.day.state = s.day.state) (hwalker : t.register.walker.hand = s.register.walker.hand) :
    t.engine = s.engine := by
  simp [State.engine, htables, hrecompute, hday, hwalker]

theorem engine_tables {s t : State} (h : t.engine = s.engine) :
    t.timetable.tables = s.timetable.tables := congrArg (·.1) h

theorem engine_recompute {s t : State} (h : t.engine = s.engine) :
    t.timetable.recompute = s.timetable.recompute := congrArg (·.2.1) h

theorem engine_day {s t : State} (h : t.engine = s.engine) : t.day.state = s.day.state :=
  congrArg (·.2.2.1) h

theorem engine_closeWalk {s t : State} (h : t.engine = s.engine) :
    t.register.walker.hand = some .closeWalk ↔ s.register.walker.hand = some .closeWalk :=
  decide_eq_decide.1 (congrArg (·.2.2.2) h)

theorem engine_foldl {α : Type} {f : State → α → State} (h : ∀ s x, (f s x).engine = s.engine)
    (l : List α) (s : State) : (l.foldl f s).engine = s.engine := by
  induction l generalizing s with
  | nil => rfl
  | cons x l ih => rw [List.foldl_cons, ih, h]

/-- A walker that takes an item had no walk in hand, and the item is not the close walk (R117). -/
theorem takeItem_closeWalk (r : DayRegister) :
    (takeItem r).walker.hand = some .closeWalk ↔ r.walker.hand = some .closeWalk := by
  by_cases h : r.walker.hand = none
  · unfold takeItem
    split
    · split <;> simp [h]
    · rfl
  · rw [takeItem_of_not (.inl h)]

section Frames

variable (s : State)

/-! ### Updates of one part -/

theorem engine_onRegister {s : State} {f : DayRegister → DayRegister}
    (h : (f s.register).walker.hand = some .closeWalk ↔ s.register.walker.hand = some .closeWalk) :
    (s.onRegister f).engine = s.engine := by
  simp [State.engine, h]

@[simp] theorem engine_setPupil (k : Nat) (r : Option Pupil) :
    (setPupil k r s).engine = s.engine := rfl
@[simp] theorem engine_onClock (f : Clock → Clock) : (s.onClock f).engine = s.engine := rfl
@[simp] theorem engine_onStore (f : PlanStore → PlanStore) : (s.onStore f).engine = s.engine := rfl
@[simp] theorem engine_setPort (p : PortId) (r : Port) : (s.setPort p r).engine = s.engine := rfl
@[simp] theorem engine_withWires (w : Wires) :
    ({ s with wires := w } : State).engine = s.engine := rfl
@[simp] theorem engine_withTotals (w : Accumulators) :
    ({ s with totals := w } : State).engine = s.engine := rfl
@[simp] theorem engine_withLink (w : LinkInterface) :
    ({ s with link := w } : State).engine = s.engine := rfl
@[simp] theorem engine_withPupils (w : PupilTable) :
    ({ s with pupils := w } : State).engine = s.engine := rfl
@[simp] theorem engine_withLines (w : Lines) :
    ({ s with lines := w } : State).engine = s.engine := rfl
@[simp] theorem engine_withPending (w : List Instr) :
    ({ s with pending := w } : State).engine = s.engine := rfl
@[simp] theorem engine_onBells (f : BellUnit → BellUnit) : (s.onBells f).engine = s.engine := rfl
@[simp] theorem engine_onMessages (f : MessageUnit → MessageUnit) :
    (s.onMessages f).engine = s.engine := rfl
@[simp] theorem engine_onRoll (f : SiteRoll → SiteRoll) : (s.onRoll f).engine = s.engine := rfl
@[simp] theorem engine_setRecord (k : Nat) (r : RegisterRecord) :
    (setRecord k r s).engine = s.engine := rfl
@[simp] theorem engine_setHold (k : Nat) (h : Option RouteHold) :
    (setHold k h s).engine = s.engine := rfl
@[simp] theorem engine_setTotals (k : Nat) (r : Accumulator) :
    (setTotals k r s).engine = s.engine := rfl
@[simp] theorem engine_tellMessages (m : ToMessages) : (tellMessages m s).engine = s.engine := rfl
@[simp] theorem engine_tellAccumulators (m : ToAccumulators) :
    (tellAccumulators m s).engine = s.engine := rfl
@[simp] theorem engine_popMessage (l : List ToMessages) : (popMessage l s).engine = s.engine := rfl
@[simp] theorem engine_popAccrual (l : List ToAccumulators) :
    (popAccrual l s).engine = s.engine := rfl
@[simp] theorem engine_setCurrent (m : Option Nat) : (setCurrent m s).engine = s.engine := rfl
@[simp] theorem engine_holdForSwap (p : PortId) (h : Holdable) :
    (holdForSwap p h s).engine = s.engine := rfl
@[simp] theorem engine_holdRequest (p : PortId) (h : Holdable) :
    (holdRequest p h s).engine = s.engine := rfl
@[simp] theorem engine_setWait (k : Nat) (b : Bool) : (setWait k b s).engine = s.engine := rfl
@[simp] theorem engine_askConcern (k : Nat) (r : PupilRef) :
    (askConcern k r s).engine = s.engine := rfl
@[simp] theorem engine_askLateness (a : LatenessAsk) : (askLateness a s).engine = s.engine := rfl
@[simp] theorem engine_recordCause (p : PortId) (c : LinkCause) :
    (recordCause p c s).engine = s.engine := rfl

/-! ### The register walker -/

@[simp] theorem engine_joinGroup (c : GroupContents) (t : Stamp) :
    (s.onRegister (joinGroup c t)).engine = s.engine :=
  engine_onRegister (takeItem_closeWalk _)

@[simp] theorem engine_joinRoute (k : Nat) (t : Stamp) :
    (s.onRegister (joinRoute k t)).engine = s.engine :=
  engine_onRegister (takeItem_closeWalk _)

@[simp] theorem engine_walkerAlarm (b : Bool) :
    (s.onRegister (walkerAlarm b)).engine = s.engine :=
  engine_onRegister (takeItem_closeWalk _)

/-! ### Answers, faults and the gates of the day state -/

@[simp] theorem engine_answer (p : PortId) (st : Status) (a : Bool) (b : ReplyBody) :
    (answer p st a b s).engine = s.engine := by
  unfold answer
  dsimp only
  split <;> simp

@[simp] theorem engine_refuse (p : PortId) (st : Status) : (refuse p st s).engine = s.engine := by
  simp [refuse]

@[simp] theorem engine_answerOk (p : PortId) (b : ReplyBody) :
    (answerOk p b s).engine = s.engine := by
  simp [answerOk]

@[simp] theorem engine_enterService (p : PortId) (k t : Octet) :
    (enterService p k t s).engine = s.engine := rfl

@[simp] theorem engine_reportFault (r : FaultRecord) : (reportFault r s).engine = s.engine := by
  unfold reportFault
  repeat' split
  all_goals simp

@[simp] theorem engine_resetRecord (k : Nat) (a b : Mark) :
    (resetRecord k a b s).engine = s.engine := rfl

theorem engine_gateOpen {f : State → State} (h : ∀ s, (f s).engine = s.engine) (p : PortId)
    (x : Holdable) (s : State) : (gateOpen p x f s).engine = s.engine := by
  unfold gateOpen
  split <;> simp [h]

theorem engine_gateNotice {f : State → State} (h : ∀ s, (f s).engine = s.engine) (p : PortId)
    (x : Holdable) (s : State) : (gateNotice p x f s).engine = s.engine := by
  unfold gateNotice
  split <;> simp [h]

theorem engine_gateRegister {f : State → State} (h : ∀ s, (f s).engine = s.engine) (p : PortId)
    (x : Holdable) (s : State) : (gateRegister p x f s).engine = s.engine := by
  unfold gateRegister
  split <;> simp [h]

/-! ### The Timetable Engine and the Bell Unit -/

@[simp] theorem engine_timetableBell (b : BellPattern) (z : EightSet) :
    (timetableBell b z s).engine = s.engine := by
  dsimp only [timetableBell]
  repeat' split
  all_goals simp

@[simp] theorem engine_takeStart (e : EntryStart) : (takeStart s e).engine = s.engine := by
  simp [takeStart]

@[simp] theorem engine_closeRegister (p : Nat) (x : Session) (m : Nat) :
    (closeRegister p x m s).engine = s.engine :=
  engine_onRegister (takeItem_closeWalk _)

@[simp] theorem engine_takeEnd (e : PlanEnd) : (takeEnd e s).engine = s.engine := by
  simp [takeEnd]

@[simp] theorem engine_takeReadTimetable (p : PortId) (a b : Nat) :
    (takeReadTimetable p a b s).engine = s.engine := by
  unfold takeReadTimetable
  repeat' split
  all_goals simp

@[simp] theorem engine_serveReadTimetable (p : PortId) (a b : Nat) :
    (serveReadTimetable p a b s).engine = s.engine :=
  engine_gateOpen (fun s => by split <;> simp) _ _ _

@[simp] theorem engine_serveWriteQuiet (p : PortId) (n : Nat) (r : QuietReq) :
    (serveWriteQuiet p n r s).engine = s.engine := by
  unfold serveWriteQuiet
  repeat' split
  all_goals simp

@[simp] theorem engine_serveRing (p : PortId) (z : EightSet) (b : Option BellPattern) :
    (serveRing p z b s).engine = s.engine := by
  unfold serveRing
  repeat' split
  all_goals simp

/-! ### The Day Register -/

@[simp] theorem engine_setPresence (k : Nat) (x : Presence) :
    (setPresence k x s).engine = s.engine := by
  dsimp only [setPresence]
  repeat' split
  all_goals rfl

@[simp] theorem engine_markGap (k : Nat) (x : Session) : (markGap k x s).engine = s.engine := rfl

@[simp] theorem engine_appendAmendment (a : Amendment) :
    (appendAmendment a s).engine = s.engine := by
  unfold appendAmendment
  split
  · split
    · rw [engine_reportFault, engine_onRegister Iff.rfl, engine_markGap]
    · rfl
  · rfl

@[simp] theorem engine_enterUnexplained (p : Proposal) (r : PupilRef) (m : Mark) :
    (enterUnexplained p r m s).engine = s.engine := by
  unfold enterUnexplained
  split <;> simp

@[simp] theorem engine_leaveUnexplainedMark (m : SessionMarks) (p : Proposal) (r : PupilRef)
    (k : Mark) :
    (leaveUnexplainedMark m p r k s).engine = s.engine := by
  unfold leaveUnexplainedMark
  repeat' split
  all_goals simp

@[simp] theorem engine_applyChange (m : SessionMarks) (p : Proposal) (r : PupilRef) (k : Mark) :
    (applyChange m p r k s).engine = s.engine := by
  unfold applyChange
  repeat' split
  all_goals simp

@[simp] theorem engine_applyRepeat (m : SessionMarks) (p : Proposal) (k : Mark) :
    (applyRepeat m p k s).engine = s.engine := by
  unfold applyRepeat
  split <;> simp

@[simp] theorem engine_propose (p : Proposal) : ((propose p s).1).engine = s.engine := by
  dsimp only [propose]
  repeat' split
  all_goals simp

@[simp] theorem engine_takeSignIn (r : SignInReport) : ((takeSignIn r s).1).engine = s.engine := by
  unfold takeSignIn
  split <;> simp

@[simp] theorem engine_proposeEach (f : Session → Proposal) (l : List Session) :
    (proposeEach f l s).1.engine = s.engine := by
  induction l generalizing s with
  | nil => rfl
  | cons x l ih => simp [proposeEach, ih]

@[simp] theorem engine_takeSignOut (k : Nat) (t : Stamp) (b : Bool) (l : List Session) :
    ((takeSignOut k t b l s).1).engine = s.engine := by
  simp [takeSignOut]

@[simp] theorem engine_takeMark (p : PortId) (r : MarkReq) :
    (takeMark p r s).engine = s.engine := by
  dsimp only [takeMark]
  repeat' split
  all_goals simp

@[simp] theorem engine_serveMark (p : PortId) (r : MarkReq) :
    (serveMark p r s).engine = s.engine :=
  engine_gateOpen (fun s => engine_takeMark s p r) _ _ _

@[simp] theorem engine_serveGroupMark (p : PortId) (r : GroupMarkReq) :
    (serveGroupMark p r s).engine = s.engine := by
  unfold serveGroupMark
  split
  · simp
  · exact engine_gateOpen (fun s => by split <;> simp) _ _ _

@[simp] theorem engine_takeReadRegister (p : PortId) (r : RegisterSelector) :
    (takeReadRegister p r s).engine = s.engine := by
  unfold takeReadRegister
  repeat' split
  all_goals simp [readRegisterList]

@[simp] theorem engine_serveReadRegister (p : PortId) (r : RegisterSelector) :
    (serveReadRegister p r s).engine = s.engine :=
  engine_gateRegister (fun s => engine_takeReadRegister s p r) _ _ _

@[simp] theorem engine_takeReadChanges (p : PortId) :
    (takeReadChanges p s).engine = s.engine := by
  rw [takeReadChanges, engine_answerOk, engine_onRegister Iff.rfl]

@[simp] theorem engine_serveReadChanges (p : PortId) :
    (serveReadChanges p s).engine = s.engine :=
  engine_gateRegister (fun s => engine_takeReadChanges s p) _ _ _

@[simp] theorem engine_takeReport : (takeReport s).engine = s.engine := by
  dsimp only [takeReport]
  repeat' split
  all_goals simp

/-! ### The Message Unit -/

@[simp] theorem engine_reportAlert (k : Nat) (a : AlertState) :
    (reportAlert k a s).engine = s.engine := by
  unfold reportAlert
  repeat' split
  all_goals simp

@[simp] theorem engine_addCall (k : Nat) (r : PupilRef) (c : CallReason) (n : Option HeldNotice) :
    (addCall k r c n s).engine = s.engine := by
  unfold addCall
  repeat' split
  all_goals simp

@[simp] theorem engine_addCallFor (k : Nat) (c : CallReason) :
    (addCallFor k c s).engine = s.engine := by
  unfold addCallFor
  split <;> simp

@[simp] theorem engine_dropCall (k : Nat) : (dropCall k s).engine = s.engine := rfl
@[simp] theorem engine_setOutbound (e : Outbound) : (setOutbound e s).engine = s.engine := rfl
@[simp] theorem engine_dropOutbound (k : Nat) : (dropOutbound k s).engine = s.engine := rfl

@[simp] theorem engine_queueFull (k : Nat) : (queueFull k s).engine = s.engine := by
  simp [queueFull]

@[simp] theorem engine_joinOutbound (e : Outbound) : (joinOutbound e s).engine = s.engine := rfl

@[simp] theorem engine_takeRaise (k : Nat) (r : PupilRef) (x : Session) :
    (takeRaise k r x s).engine = s.engine := by
  unfold takeRaise
  repeat' split
  all_goals simp

@[simp] theorem engine_takeLeave (k : Nat) (r : PupilRef) (x : Session) (m : Mark) :
    (takeLeave k r x m s).engine = s.engine := by
  dsimp only [takeLeave]
  repeat' split
  all_goals simp

@[simp] theorem engine_takeToMessages (m : ToMessages) :
    (takeToMessages s m).engine = s.engine := by
  unfold takeToMessages
  split <;> simp

@[simp] theorem engine_drainMessages :
    (drainMessages s).engine = s.engine :=
  engine_foldl engine_takeToMessages _ _

@[simp] theorem engine_dropStanding (k : Nat) : (dropStanding k s).engine = s.engine := rfl
@[simp] theorem engine_storeStanding (e : Standing) : (storeStanding e s).engine = s.engine := rfl

@[simp] theorem engine_applyNotice (k : Nat) (n : HeldNotice) :
    ((applyNotice k n s).1).engine = s.engine := by
  dsimp only [applyNotice]
  repeat' split
  all_goals simp

@[simp] theorem engine_takeVerified (p : PortId) (k : Nat) (n : HeldNotice) :
    (takeVerified p k n s).engine = s.engine := by
  unfold takeVerified
  split <;> simp

@[simp] theorem engine_takeUnverified (p : PortId) (k : Nat) (r : PupilRef) (n : HeldNotice) :
    (takeUnverified p k r n s).engine = s.engine := by
  unfold takeUnverified
  dsimp only
  split <;> simp

@[simp] theorem engine_takeNotice (p : PortId) (r : NoticeReq) :
    (takeNotice p r s).engine = s.engine := by
  unfold takeNotice
  repeat' split
  all_goals simp

@[simp] theorem engine_serveNotice (p : PortId) (r : NoticeReq) :
    (serveNotice p r s).engine = s.engine :=
  engine_gateNotice (fun s => engine_takeNotice s p r) _ _ _

@[simp] theorem engine_settleHeldNotice (k : Nat) : (settleHeldNotice k s).engine = s.engine := rfl

@[simp] theorem engine_takeConfirmNotice (p : PortId) (k : Nat) (b : Bool) :
    (takeConfirmNotice p k b s).engine = s.engine := by
  unfold takeConfirmNotice
  repeat' split
  all_goals simp

@[simp] theorem engine_serveConfirmNotice (p : PortId) (k : Nat) (b : Bool) :
    (serveConfirmNotice p k b s).engine = s.engine :=
  engine_gateNotice (fun s => engine_takeConfirmNotice s p k b) _ _ _

@[simp] theorem engine_visitStanding (k : Nat) : (visitStanding k s).engine = s.engine := by
  unfold visitStanding
  repeat' split
  all_goals simp

@[simp] theorem engine_serveReadStanding (p : PortId) (n : Nat) :
    (serveReadStanding p n s).engine = s.engine := by
  unfold serveReadStanding
  split <;> simp

@[simp] theorem engine_serveCancelStanding (p : PortId) (r : PupilRef) :
    (serveCancelStanding p r s).engine = s.engine := by
  unfold serveCancelStanding
  split <;> simp

@[simp] theorem engine_exhaust (k : Nat) (c : CallReason) : (exhaust k c s).engine = s.engine := by
  simp [exhaust]

@[simp] theorem engine_serveQueue (p : PortId) (n : Nat) :
    (serveQueue p n s).engine = s.engine := by
  induction n generalizing s with
  | zero => simp [serveQueue]
  | succ n ih =>
    unfold serveQueue
    repeat' split
    all_goals simp [ih, handOver]

@[simp] theorem engine_serveTakeMessage (p : PortId) :
    (serveTakeMessage p s).engine = s.engine := by
  unfold serveTakeMessage
  split <;> simp

@[simp] theorem engine_leaveOrFollowOn (e : Outbound) (a : AlertState) :
    (leaveOrFollowOn e a s).engine = s.engine := by
  unfold leaveOrFollowOn
  dsimp only
  split <;> simp

@[simp] theorem engine_becomeCorrection (e : Outbound) :
    (becomeCorrection e s).engine = s.engine := by
  simp [becomeCorrection]

@[simp] theorem engine_returnToPosition (e : Outbound) (n : Nat) :
    (returnToPosition e n s).engine = s.engine := by
  dsimp only [returnToPosition]
  repeat' split
  all_goals simp

@[simp] theorem engine_resultDelivered (e : Outbound) :
    (resultDelivered e s).engine = s.engine := by
  unfold resultDelivered
  repeat' split
  all_goals simp

@[simp] theorem engine_resultFailed (e : Outbound) : (resultFailed e s).engine = s.engine := by
  unfold resultFailed
  repeat' split
  all_goals simp

@[simp] theorem engine_applyResult (e : Outbound) (h : Handed) (b : Bool) :
    (applyResult e h b s).engine = s.engine := by
  unfold applyResult
  repeat' split
  all_goals simp

@[simp] theorem engine_serveMessageResult (p : PortId) (n : Nat) (o : Option Delivery) :
    (serveMessageResult p n o s).engine = s.engine := by
  unfold serveMessageResult
  repeat' split
  all_goals simp

@[simp] theorem engine_timeOut (e : Outbound) (h : Handed) : (timeOut e h s).engine = s.engine := by
  unfold timeOut
  repeat' split
  all_goals simp

@[simp] theorem engine_expireHandover (n : Nat) : (expireHandover s n).engine = s.engine := by
  unfold expireHandover
  repeat' split
  all_goals simp

@[simp] theorem engine_expireHandovers :
    (expireHandovers s).engine = s.engine :=
  engine_foldl engine_expireHandover _ _

@[simp] theorem engine_serveReadCalls (p : PortId) (n : Nat) :
    (serveReadCalls p n s).engine = s.engine := by
  unfold serveReadCalls
  split <;> simp

@[simp] theorem engine_serveClearCall (p : PortId) (n : Nat) :
    (serveClearCall p n s).engine = s.engine := by
  unfold serveClearCall
  repeat' split
  all_goals simp

@[simp] theorem engine_reportUnsent (e : Outbound) : (reportUnsent s e).engine = s.engine := by
  unfold reportUnsent
  split <;> simp

@[simp] theorem engine_closeMessages :
    (closeMessages s).engine = s.engine := by
  simp [closeMessages, engine_foldl engine_reportUnsent]

@[simp] theorem engine_clearMessages (k : Nat) : (clearMessages k s).engine = s.engine := rfl

/-! ### The Term Accumulators -/

@[simp] theorem engine_takeLateness (a : LatenessAsk) : (takeLateness a s).engine = s.engine := by
  unfold takeLateness
  split <;> simp

@[simp] theorem engine_takeOpenMinutes (k : Nat) (r : PupilRef) (m : Nat) :
    (takeOpenMinutes k r m s).engine = s.engine := by
  unfold takeOpenMinutes
  split <;> simp

@[simp] theorem engine_takeFold (k : Nat) (r : PupilRef) (d : DayNumber) (a b : Mark) :
    (takeFold k r d a b s).engine = s.engine := by
  dsimp only [takeFold]
  repeat' split
  all_goals simp

@[simp] theorem engine_serveReadTotals (p : PortId) (r : TotalsSelector) :
    (serveReadTotals p r s).engine = s.engine := by
  unfold serveReadTotals
  repeat' split
  all_goals simp [answerTotals, answerTotalsList, refuseTotals]

@[simp] theorem engine_serveTermReset (p : PortId) : (serveTermReset p s).engine = s.engine := by
  unfold serveTermReset
  split <;> simp

/-! ### The Site Roll -/

@[simp] theorem engine_buildVisit (k : Nat) : (buildVisit k s).engine = s.engine := by
  unfold buildVisit
  repeat' split
  all_goals simp

@[simp] theorem engine_takePresence (p : PresencePass) : (takePresence p s).engine = s.engine := by
  unfold takePresence
  repeat' split
  all_goals simp

@[simp] theorem engine_serveReadRoll (p : PortId) (n : Nat) :
    (serveReadRoll p n s).engine = s.engine := by
  unfold serveReadRoll
  split <;> simp

@[simp] theorem engine_serveAccount (p : PortId) (r : AccountReq) :
    (serveAccount p r s).engine = s.engine := by
  unfold serveAccount
  repeat' split
  all_goals simp

@[simp] theorem engine_serveRollClose (p : PortId) : (serveRollClose p s).engine = s.engine := by
  unfold serveRollClose
  split <;> simp

/-! ### The Arrivals Unit -/

@[simp] theorem engine_proposedSignIn (p : PortId) (k : Nat) (r : Pupil) (x : Session)
    (c : ArrivalClass) (l : Option LateFigures) (e : Option Excuse) (a : Bool) (t : Stamp)
    (b : Bool) :
    (proposedSignIn p k r x c l e a t b s).engine = s.engine := by
  dsimp only [proposedSignIn]
  repeat' split
  all_goals simp

@[simp] theorem engine_takeArrival (p : PortId) (k : Nat) (r : Pupil) (b : Bool) :
    (takeArrival p k r b s).engine = s.engine := by
  dsimp only [takeArrival]
  repeat' split
  all_goals simp [plainSignIn]

@[simp] theorem engine_reportRetry (p : PortId) (c : Nat) (b : Bool) :
    (reportRetry p c b s).engine = s.engine := by
  unfold reportRetry
  split <;> simp

@[simp] theorem engine_refuseCard (p : PortId) (c : Nat) (m : CardMatch) :
    (refuseCard p c m s).engine = s.engine := by
  unfold refuseCard
  split <;> simp

@[simp] theorem engine_takeCard (p : PortId) (c : Nat) (b : Bool) :
    (takeCard p c b s).engine = s.engine := by
  dsimp only [takeCard]
  repeat' split
  all_goals simp

@[simp] theorem engine_takeSignInRequest (p : PortId) (r : SignInReq) :
    (takeSignInRequest p r s).engine = s.engine := by
  unfold takeSignInRequest
  repeat' split
  all_goals simp

@[simp] theorem engine_serveSignIn (p : PortId) (r : SignInReq) :
    (serveSignIn p r s).engine = s.engine :=
  engine_gateOpen (fun s => engine_takeSignInRequest s p r) _ _ _

@[simp] theorem engine_takeSignOutRequest (p : PortId) (r : PupilRef) (x : SignOutReason)
    (b : Bool) :
    (takeSignOutRequest p r x b s).engine = s.engine := by
  unfold takeSignOutRequest
  split <;> simp

@[simp] theorem engine_serveSignOut (p : PortId) (r : SignOutReq) :
    (serveSignOut p r s).engine = s.engine := by
  unfold serveSignOut
  split
  · exact engine_gateOpen (fun s => engine_takeSignOutRequest s _ _ _ _) _ _ _
  · simp

@[simp] theorem engine_serveRouteHold (p : PortId) (r : RouteHoldReq) :
    (serveRouteHold p r s).engine = s.engine := by
  unfold serveRouteHold
  split
  · exact engine_gateOpen (fun s => by simp [takeRouteHold]) _ _ _
  · simp

@[simp] theorem engine_expireHold (n : Nat) : (expireHold s n).engine = s.engine := by
  unfold expireHold
  repeat' split
  all_goals simp

@[simp] theorem engine_expireHolds :
    (expireHolds s).engine = s.engine :=
  engine_foldl engine_expireHold _ _

/-! ### Reads of the Plan Store and the Pupil Table -/

@[simp] theorem engine_serveReadPlan (p : PortId) (r : PlanSelector) (a : Nat) :
    (serveReadPlan p r a s).engine = s.engine := by
  unfold serveReadPlan
  repeat' split
  all_goals simp [answerPlan, answerCohorts]

@[simp] theorem engine_answerCard (p : PortId) (c : Nat) :
    (answerCard p c s).engine = s.engine := by
  unfold answerCard
  split <;> simp

@[simp] theorem engine_serveReadPupil (p : PortId) (r : PupilSelector) :
    (serveReadPupil p r s).engine = s.engine := by
  unfold serveReadPupil
  repeat' split
  all_goals simp

@[simp] theorem engine_resetForToday (k : Nat) : (resetForToday k s).engine = s.engine := rfl

/-! ### Visits of the register walker -/

@[simp] theorem engine_advanceCursor :
    (advanceCursor s).engine = s.engine := rfl

@[simp] theorem engine_sessionSweep (p : Nat) (x : Session) (k : Nat) :
    (sessionSweep p x k s).engine = s.engine := by
  unfold sessionSweep
  repeat' split
  all_goals simp

@[simp] theorem engine_routeSweepSession (p k : Nat) (x : Session) :
    (routeSweepSession p k s x).engine = s.engine := by
  unfold routeSweepSession
  split <;> simp

@[simp] theorem engine_routeSweep (r : RouteSet) (k : Nat) :
    (routeSweep r k s).engine = s.engine := by
  unfold routeSweep
  repeat' split
  all_goals simp [engine_foldl fun s x => engine_routeSweepSession s _ k x]

@[simp] theorem engine_groupSession (m : Mark) (k : Nat) (x : Session) :
    (groupSession m k s x).engine = s.engine := by
  rw [groupSession, engine_onRegister Iff.rfl, engine_propose]

@[simp] theorem engine_groupWalk (c : GroupContents) (k : Nat) :
    (groupWalk c k s).engine = s.engine := by
  unfold groupWalk
  repeat' split
  all_goals simp [engine_foldl fun s x => engine_groupSession s _ k x]

@[simp] theorem engine_openVisit (k : Nat) : (openVisit k s).engine = s.engine := by
  simp [openVisit]

@[simp] theorem engine_accrueOpen (k : Nat) (r : PupilRef) (t : Stamp) (x : Session) :
    (accrueOpen k r t s x).engine = s.engine := by
  unfold accrueOpen
  dsimp only
  split <;> simp

@[simp] theorem engine_closeVisit (k : Nat) :
    (closeVisit k s).engine = s.engine := by
  unfold closeVisit
  split
  · rfl
  · simp [finalMark]

/-! ### Seconds, closings and the ALARM line -/

@[simp] theorem engine_endHolds : (endHolds s).engine = s.engine := rfl
@[simp] theorem engine_endWaits : (endWaits s).engine = s.engine := rfl

@[simp] theorem engine_takeAlarm (b : Bool) : (takeAlarm b s).engine = s.engine := by
  simp [takeAlarm]

@[simp] theorem engine_setReceive (p : PortId) (r : ReceiveState) :
    (setReceive p r s).engine = s.engine := rfl

/-! ### The Link Interface -/

@[simp] theorem engine_overlapFrame (p : PortId) : (overlapFrame p s).engine = s.engine := by
  unfold overlapFrame
  split <;> simp

@[simp] theorem engine_takeUnknownKind (p : PortId) (k t : Octet) :
    (takeUnknownKind p k t s).engine = s.engine := by
  unfold takeUnknownKind
  split <;> simp

@[simp] theorem engine_completeReply (p : PortId) : (completeReply p s).engine = s.engine := by
  unfold completeReply
  repeat' split
  all_goals simp

@[simp] theorem engine_servePortRelease (p : PortId) (n : Nat) :
    (servePortRelease p n s).engine = s.engine := by
  unfold servePortRelease
  split <;> simp

/-! ### Writes of the Plan Store and the Pupil Table -/

@[simp] theorem engine_serveWritePlan (p : PortId) (r : PlanReq) :
    (serveWritePlan p r s).engine = s.engine := by
  unfold serveWritePlan
  split
  · simp
  · split <;> simp [takeWritePlan]

@[simp] theorem engine_serveWriteCohorts (p : PortId) (l : List CohortReq) :
    (serveWriteCohorts p l s).engine = s.engine := by
  unfold serveWriteCohorts
  repeat' split
  all_goals simp

@[simp] theorem engine_serveWriteSettings (p : PortId) (r : SettingsReq) :
    (serveWriteSettings p r s).engine = s.engine := by
  unfold serveWriteSettings
  repeat' split
  all_goals simp

@[simp] theorem engine_takeWritePupil (p : PortId) (r : PupilReq) :
    (takeWritePupil p r s).engine = s.engine := by
  unfold takeWritePupil
  dsimp only
  split <;> simp

@[simp] theorem engine_serveWritePupil (p : PortId) (r : PupilReq) :
    (serveWritePupil p r s).engine = s.engine := by
  unfold serveWritePupil
  split <;> simp

@[simp] theorem engine_serveClearPupil (p : PortId) (k : Nat) (r : PupilRef) :
    (serveClearPupil p k r s).engine = s.engine := by
  unfold serveClearPupil
  repeat' split
  all_goals simp [clearSlot]

@[simp] theorem engine_serveWriteWindow (p : PortId) (k : Nat) (w : Option CardWindow) :
    (serveWriteWindow p k w s).engine = s.engine := by
  unfold serveWriteWindow
  split <;> simp

end Frames

end TimetableLaws

end Sys2Proof.Machine
end

section
/-! SUPPORT. The effective timetables stay laid out (R43): what each operation of the Timetable Engine
makes of a table, and what it makes of the tables, the recompute in flight and the day state. -/

namespace Sys2Proof.Machine

open Sys2Proof

/-- An entry as it stands once what is due at a minute has begun (R34). -/
def EffEntry.beginAt (m : Nat) (e : EffEntry) : EffEntry :=
  if e.due m then { e with begun := true } else e

namespace TimetableLaws

/-! ### Tables laid out -/

theorem laid_congr {u v : PlanTable} (hentries : v.entries = u.entries) (hend : v.effEnd = u.effEnd)
    (h : u.laid) : v.laid := by
  unfold PlanTable.laid
  rwa [hentries, hend]

theorem layEntries_begun (l : List Entry) (start : Nat) :
    ∀ x ∈ layEntries start l, x.begun = false := by
  induction l generalizing start with
  | nil => exact fun _ h => absurd h List.not_mem_nil
  | cons e rest ih => exact List.forall_mem_cons.2 ⟨rfl, ih _⟩

/-- Entries laid from nominal (R32). -/
theorem laidFrom_layEntries {l : List Entry} (h : ∀ e ∈ l, e.sound) (start : Nat) :
    laidFrom start (layEntries start l) := by
  induction l generalizing start with
  | nil => trivial
  | cons e rest ih =>
    obtain ⟨⟨-, -, hfloor, hnominal, -⟩, hrest⟩ := List.forall_mem_cons.1 h
    refine laidFrom_cons.2 ⟨rfl, hfloor, hnominal, le_rfl, fun _ => layEntries_begun rest _, ih hrest _⟩

theorem layEntries_map_length (l : List Entry) (start : Nat) :
    (layEntries start l).map (·.length) = l.map (·.nominal) := by
  induction l generalizing start with
  | nil => rfl
  | cons e rest ih => exact congrArg _ (ih _)

/-- The table an opening builds of a valid plan is laid out (R32, R43). -/
theorem laid_buildTable {b : PlanBody} (h : b.sound) (plan : Nat) : (buildTable plan b).laid := by
  obtain ⟨-, -, hne, -, hentries, -⟩ := h
  refine ⟨b.start, ?_, laidFrom_layEntries hentries b.start, ?_⟩
  · intro hnil
    have := congrArg List.length (layEntries_map_length b.entries b.start)
    simp only [buildTable] at hnil
    simp [hnil] at this
    omega
  · simp only [buildTable, layEntries_map_length]
    rfl

/-! ### Beginning entries (R34, R35) -/

theorem fixClose_eq (u : PlanTable) (m : Nat) (x : Session) :
    (u.fixClose m x).plan = u.plan ∧ (u.fixClose m x).entries = u.entries
      ∧ (u.fixClose m x).effEnd = u.effEnd := by
  unfold PlanTable.fixClose
  split
  · split
    · cases x <;> exact ⟨rfl, rfl, rfl⟩
    · exact ⟨rfl, rfl, rfl⟩
  · exact ⟨rfl, rfl, rfl⟩

theorem begin_plan (u : PlanTable) (m : Nat) : (u.begin m).plan = u.plan :=
  ((fixClose_eq _ _ _).1).trans (fixClose_eq _ _ _).1

theorem begin_effEnd (u : PlanTable) (m : Nat) : (u.begin m).effEnd = u.effEnd :=
  ((fixClose_eq _ _ _).2.2).trans (fixClose_eq _ _ _).2.2

theorem begin_entries (u : PlanTable) (m : Nat) :
    (u.begin m).entries = u.entries.map (EffEntry.beginAt m) := rfl

theorem beginAt_eq (m : Nat) (e : EffEntry) :
    e.beginAt m = { e with begun := e.begun || decide (e.start ≤ m) } := by
  obtain ⟨entry, start, length, begun⟩ := e
  unfold EffEntry.beginAt EffEntry.due
  cases begun with
  | true => simp
  | false => by_cases h : start ≤ m <;> simp [h]

theorem start_le_of_laidFrom {start : Nat} {l : List EffEntry} (h : laidFrom start l) :
    ∀ e ∈ l, start ≤ e.start := by
  induction l generalizing start with
  | nil => exact fun _ h => absurd h List.not_mem_nil
  | cons e rest ih =>
    obtain ⟨rfl, -, -, -, -, hrest⟩ := laidFrom_cons.1 h
    exact List.forall_mem_cons.2 ⟨le_rfl, fun x hx => (Nat.le_add_right _ _).trans (ih hrest x hx)⟩

/-- Beginning what is due keeps entries laid, for a later entry starts later (R43). -/
theorem laidFrom_map_beginAt {start : Nat} {l : List EffEntry} (h : laidFrom start l) (m : Nat) :
    laidFrom start (l.map (EffEntry.beginAt m)) := by
  induction l generalizing start with
  | nil => trivial
  | cons e rest ih =>
    have hlater := start_le_of_laidFrom h
    obtain ⟨hs, h1, hfloor, hnominal, hbegun, hrest⟩ := laidFrom_cons.1 h
    rw [List.map_cons, laidFrom_cons, beginAt_eq]
    refine ⟨hs, h1, hfloor, hnominal, fun hb => ?_, ih hrest⟩
    obtain ⟨he, hstart⟩ := Bool.or_eq_false_iff.1 hb
    refine List.forall_mem_map.2 fun x hx => ?_
    have hx' := hlater x (List.mem_cons_of_mem _ hx)
    have : e.start ≤ x.start := hs ▸ hx'
    rw [beginAt_eq]
    simp only [hbegun he x hx, Bool.false_or, decide_eq_false_iff_not] at hstart ⊢
    omega

theorem laid_begin {u : PlanTable} (h : u.laid) (m : Nat) : (u.begin m).laid := by
  obtain ⟨start, hne, hlaid, hend⟩ := h
  refine ⟨start, ?_, ?_, ?_⟩
  · simpa [begin_entries] using hne
  · rw [begin_entries]
    exact laidFrom_map_beginAt hlaid m
  · have hlengths : (EffEntry.length ∘ EffEntry.beginAt m) = EffEntry.length :=
      funext fun e => by rw [Function.comp, beginAt_eq]
    rw [begin_effEnd, hend, begin_entries, List.map_map]
    exact congrArg (fun l => start + (List.map l u.entries).sum) hlengths.symm

/-! ### The swap's table (R46) -/

/-- New entries with the begun flags of the committed ones stay laid, for those begin at the front
(R43, R46). -/
theorem laidFrom_zip_begun {start start' : Nat} {l k : List EffEntry} (hl : laidFrom start l)
    (hk : laidFrom start' k) :
    laidFrom start ((l.zip k).map fun e => { e.1 with begun := e.2.begun }) := by
  induction l generalizing start start' k with
  | nil => trivial
  | cons e rest ih =>
    cases k with
    | nil => trivial
    | cons d others =>
      obtain ⟨hs, h1, hfloor, hnominal, -, hrest⟩ := laidFrom_cons.1 hl
      obtain ⟨-, -, -, -, hbegun, hothers⟩ := laidFrom_cons.1 hk
      rw [List.zip_cons_cons, List.map_cons, laidFrom_cons]
      refine ⟨hs, h1, hfloor, hnominal, fun hd => ?_, ih hrest hothers⟩
      exact List.forall_mem_map.2 fun x hx => hbegun hd x.2 (List.of_mem_zip hx).2

theorem keepCommitted_entries_length {new old : PlanTable}
    (h : new.entries.length = old.entries.length) :
    (keepCommitted new old).entries.length = old.entries.length := by
  simp [keepCommitted, h]

theorem laid_keepCommitted {new old : PlanTable} (hnew : new.laid) (hold : old.laid)
    (h : new.entries.length = old.entries.length) : (keepCommitted new old).laid := by
  obtain ⟨start, hne, hlaid, hend⟩ := hnew
  obtain ⟨start', -, hlaid', -⟩ := hold
  refine ⟨start, ?_, laidFrom_zip_begun hlaid hlaid', ?_⟩
  · rw [← List.length_pos_iff, keepCommitted_entries_length h, ← h]
    exact List.length_pos_iff.2 hne
  · have hlengths : (keepCommitted new old).entries.map (·.length) = new.entries.map (·.length) := by
      have hfst := congrArg (List.map (·.length)) (List.map_fst_zip (l₂ := old.entries) h.le)
      rw [List.map_map] at hfst
      rw [keepCommitted, List.map_map]
      exact hfst
    rw [hlengths]
    exact hend

end TimetableLaws

end Sys2Proof.Machine
end

section
/-! SUPPORT. Every step keeps the effective timetables laid out and a recompute to OPEN (R43, R44, R47):
what each operation of the Timetable Engine and of the day state makes of them, and then each command. -/

namespace Sys2Proof.Machine

open Sys2Proof

/-- The effective timetables are laid out, those a recompute in flight works with among them, and a
recompute is in flight in OPEN alone (R43, R44, R47). -/
def State.tablesKept (s : State) : Prop := s.timetable.sound ∧ s.recomputesInOpen

/-- A pass that suits the committed tables: it starts from a table of its plan laid out, of as many
entries as the committed one, and so is what it works out (R45). -/
def Pass.sound (tables : List PlanTable) (x : Pass) : Prop :=
  x.base.laid ∧ x.base.plan = x.plan
    ∧ (∀ u ∈ tables, u.plan = x.plan → u.entries.length = x.base.entries.length)
    ∧ ∀ y, x.result = some y → y.table.laid ∧ y.table.plan = x.plan
        ∧ y.table.entries.length = x.base.entries.length

/-- The plans stored are valid. -/
def State.plansSound (s : State) : Prop :=
  ∀ n : Fin 8, ∀ b, s.store.plans[n].body = some b → b.sound

namespace TimetableLaws

/-! ### The invariant -/

theorem timetable_sound_iff {t : Timetable} : t.sound ↔ (t.tables.map (·.plan)).Nodup
    ∧ (∀ u ∈ t.tables, u.laid) ∧ ∀ c, t.recompute = some c → ∀ x ∈ c.passes, x.sound t.tables :=
  Iff.rfl

/-- The invariant reads the engine's part of the state alone. -/
theorem tablesKept_of_engine {s t : State} (h : t.engine = s.engine) (hs : s.tablesKept) :
    t.tablesKept := by
  obtain ⟨hsound, hopen, hwalk⟩ := hs
  rw [timetable_sound_iff, ← engine_tables h, ← engine_recompute h] at hsound
  refine ⟨hsound, ?_, ?_⟩
  · rwa [engine_recompute h, engine_day h]
  · rwa [engine_day h, Ne, engine_closeWalk h]

/-- An operation that keeps the invariant. -/
def KeepsTables (f : State → State) : Prop := ∀ s : State, s.tablesKept → (f s).tablesKept

theorem keepsTables_of_engine {f : State → State} (h : ∀ s, (f s).engine = s.engine) :
    KeepsTables f := fun s => tablesKept_of_engine (h s)

theorem tablesKept_foldl {α : Type} {f : State → α → State}
    (h : ∀ s x, s.tablesKept → (f s x).tablesKept) (l : List α) {s : State} (hs : s.tablesKept) :
    (l.foldl f s).tablesKept := by
  induction l generalizing s with
  | nil => exact hs
  | cons x l ih => exact ih (h s x hs)

theorem laid_of_tableOf {s : State} {p : Nat} {u : PlanTable} (hs : s.tablesKept)
    (h : tableOf s p = some u) : u.laid :=
  (timetable_sound_iff.1 hs.1).2.1 u (tableOf_mem h)

/-! ### Passes -/

/-- A pass that starts from a committed table suits the tables (R44, R45). -/
theorem pass_sound_of_mem {t : Timetable} (ht : t.sound) {u : PlanTable} (hu : u ∈ t.tables) :
    (⟨u.plan, u, none⟩ : Pass).sound t.tables := by
  obtain ⟨hnodup, hlaid, -⟩ := timetable_sound_iff.1 ht
  refine ⟨hlaid u hu, rfl, fun v hv hplan => ?_, fun y hy => by cases hy⟩
  rw [List.inj_on_of_nodup_map hnodup hv hu hplan]

/-- A pass that completes works out a table laid out (R43, R45). -/
theorem pass_sound_complete {tables : List PlanTable} {x : Pass} (h : x.sound tables)
    (delay early : Nat) :
    ({ x with result := some (passResult x.base delay early) } : Pass).sound tables := by
  obtain ⟨hlaid, hplan, hlength, -⟩ := h
  refine ⟨hlaid, hplan, hlength, ?_⟩
  rintro y ⟨⟩
  exact ⟨laid_compress early (delayApplied_zero_or_future x.base delay early) hlaid, hplan,
    compress_entries_length _ _ _⟩

/-! ### A table replaced -/

theorem mem_tables_setTable {u v : PlanTable} {s : State}
    (h : v ∈ (setTable u s).timetable.tables) :
    v = u ∨ (v ∈ s.timetable.tables ∧ v.plan ≠ u.plan) := by
  obtain ⟨w, hw, rfl⟩ := List.mem_map.1 h
  split
  · exact .inl rfl
  · next hplan => exact .inr ⟨hw, hplan⟩

theorem tables_setTable_map_plan (u : PlanTable) (s : State) :
    (setTable u s).timetable.tables.map (·.plan) = s.timetable.tables.map (·.plan) := by
  simp only [setTable, List.map_map]
  refine List.map_congr_left fun v _ => ?_
  simp only [Function.comp_apply]
  split
  · next h => exact h.symm
  · rfl

/-- A committed table replaced by one laid out, of its plan and of as many entries. -/
theorem tablesKept_setTable {s : State} {p : Nat} {u old : PlanTable} (hs : s.tablesKept)
    (hold : tableOf s p = some old) (hlaid : u.laid) (hplan : u.plan = old.plan)
    (hlength : u.entries.length = old.entries.length) : (setTable u s).tablesKept := by
  obtain ⟨hsound, hopen⟩ := hs
  obtain ⟨hnodup, hall, hpasses⟩ := timetable_sound_iff.1 hsound
  refine ⟨timetable_sound_iff.2 ⟨?_, fun v hv => ?_, fun c hc x hx => ?_⟩, hopen⟩
  · rwa [tables_setTable_map_plan]
  · rcases mem_tables_setTable hv with rfl | ⟨hv, -⟩
    · exact hlaid
    · exact hall v hv
  · obtain ⟨hbase, hbplan, hblength, hresult⟩ := hpasses c hc x hx
    refine ⟨hbase, hbplan, fun v hv hvplan => ?_, hresult⟩
    rcases mem_tables_setTable hv with rfl | ⟨hv, -⟩
    · exact hlength.trans (hblength old (tableOf_mem hold) (hplan.symm.trans hvplan))
    · exact hblength v hv hvplan

/-! ### What the tables raise (R34 to R36, R45) -/

theorem keepsTables_beginEntries (swapped : Bool) (m p : Nat) :
    KeepsTables fun s => beginEntries swapped m s p := by
  intro s hs
  dsimp only [beginEntries]
  split
  · exact hs
  · next u hu =>
    refine tablesKept_of_engine (engine_foldl engine_takeStart _ _) ?_
    exact tablesKept_setTable hs hu (laid_begin (laid_of_tableOf hs hu) m) (begin_plan u m)
      (by simp [begin_entries])

theorem setSession_eq (u : PlanTable) (x : Session) (r : Option SessionRecord) :
    (u.setSession x r).plan = u.plan ∧ (u.setSession x r).entries = u.entries
      ∧ (u.setSession x r).effEnd = u.effEnd := by
  cases x <;> exact ⟨rfl, rfl, rfl⟩

theorem keepsTables_raiseClose (m p : Nat) (x : Session) :
    KeepsTables fun s => raiseClose m p s x := by
  intro s hs
  dsimp only [raiseClose]
  split
  · exact hs
  · next u hu =>
    split
    · split
      · refine tablesKept_of_engine (engine_closeRegister _ _ _ _) ?_
        obtain ⟨hplan, hentries, hend⟩ := setSession_eq u x _
        exact tablesKept_setTable hs hu (laid_congr hentries hend (laid_of_tableOf hs hu)) hplan
          (congrArg List.length hentries)
      · exact hs
    · exact hs

theorem keepsTables_raiseEnd (m p : Nat) : KeepsTables fun s => raiseEnd m s p := by
  intro s hs
  dsimp only [raiseEnd]
  split
  · exact hs
  · next u hu =>
    split
    · refine tablesKept_of_engine (engine_takeEnd _ _) ?_
      exact tablesKept_setTable hs hu (laid_congr (u := u) rfl rfl (laid_of_tableOf hs hu)) rfl rfl
    · exact hs

theorem keepsTables_restartPasses (begun : List Nat) : KeepsTables (restartPasses begun) := by
  rintro s ⟨hsound, hopen, hwalk⟩
  obtain ⟨hnodup, hall, hpasses⟩ := timetable_sound_iff.1 hsound
  refine ⟨timetable_sound_iff.2 ⟨hnodup, hall, fun c hc x hx => ?_⟩, ?_, hwalk⟩
  · obtain ⟨d, hd, rfl⟩ := Option.map_eq_some_iff.1 hc
    obtain ⟨y, hy, rfl | ⟨u, hu, rfl⟩⟩ := d.restart_pass _ _ x hx
    · exact hpasses d hd x hy
    · have hplan : u.plan = y.plan := tableOf_plan hu
      exact hplan ▸ pass_sound_of_mem hsound (tableOf_mem hu)
  · exact fun h => hopen fun hnone => h (by simp [hnone])

theorem keepsTables_raiseDue (swapped : Bool) (m : Nat) (plans : List Nat) :
    KeepsTables (raiseDue swapped m plans) := by
  intro s hs
  refine keepsTables_restartPasses _ _ ?_
  refine tablesKept_foldl (fun s p => keepsTables_raiseEnd m p s) _ ?_
  refine tablesKept_foldl (fun s p hs => ?_) _ ?_
  · exact keepsTables_raiseClose m p .pm _ (keepsTables_raiseClose m p .am s hs)
  · exact tablesKept_foldl (fun s p => keepsTables_beginEntries swapped m p s) _ hs

theorem keepsTables_timetableMinute (m : Nat) (d : DayNumber) :
    KeepsTables (timetableMinute m d) := by
  intro s hs
  unfold timetableMinute
  split
  · exact keepsTables_raiseDue _ _ _ _ (tablesKept_of_engine (engine_setCurrent _ _) hs)
  · exact tablesKept_of_engine (engine_setCurrent _ _) hs
  all_goals exact hs

/-! ### Openings and closings (R10, R14, R32, R47) -/

theorem plansSound_of_store {s : State} (h : s.store.sound) : s.plansSound := fun n => (h.1 n).2

theorem plansSound_of_plans {s t : State} (h : t.store.plans = s.store.plans)
    (hs : s.plansSound) : t.plansSound := by
  unfold State.plansSound
  rwa [h]

theorem plansSound_of_core {s t : State} (h : t.core = s.core) (hs : s.plansSound) :
    t.plansSound :=
  plansSound_of_plans (congrArg (·.plans) (core_store h)) hs

theorem planBody_sound {s : State} (hs : s.plansSound) {plan : Nat} {b : PlanBody}
    (h : planBody s.store plan = some b) : b.sound := by
  unfold planBody nth at h
  split at h
  · cases h
  · split at h
    · next hlt => exact hs ⟨plan - 1, hlt⟩ b h
    · cases h

theorem eq_buildTable_of_opened {s : State} {plan : Nat} {u : PlanTable}
    (h : (if inUse s plan then (planBody s.store plan).map (buildTable plan) else none) = some u) :
    ∃ b, planBody s.store plan = some b ∧ u = buildTable plan b := by
  split at h
  · obtain ⟨b, hb, rfl⟩ := Option.map_eq_some_iff.1 h
    exact ⟨b, hb, rfl⟩
  · cases h

theorem laid_of_mem_nominalTables {s : State} (hs : s.plansSound) {u : PlanTable}
    (h : u ∈ nominalTables s) : u.laid := by
  obtain ⟨plan, -, hu⟩ := List.mem_filterMap.1 h
  obtain ⟨b, hb, rfl⟩ := eq_buildTable_of_opened hu
  exact laid_buildTable (planBody_sound hs hb) plan

/-- An opening builds one table a plan (R32). -/
theorem nominalTables_nodup (s : State) : ((nominalTables s).map (·.plan)).Nodup := by
  have hplans : ((List.range 8).map (· + 1)).Pairwise (· ≠ ·) := by decide
  refine List.Pairwise.map _ (fun _ _ h => h) (List.Pairwise.filterMap _ ?_ hplans)
  intro p q hpq u hu v hv
  obtain ⟨b, -, rfl⟩ := eq_buildTable_of_opened hu
  obtain ⟨c, -, rfl⟩ := eq_buildTable_of_opened hv
  exact hpq

/-- In any state but OPEN no recompute is in flight. -/
theorem recompute_eq_none {s : State} (hs : s.tablesKept) (hday : s.day.state ≠ .open) :
    s.timetable.recompute = none := by
  by_contra h
  exact hday (hs.2.1 h)

/-- With no recompute in flight, outside OPEN, the tables alone matter. -/
theorem tablesKept_of_shut {s : State} (hnodup : (s.timetable.tables.map (·.plan)).Nodup)
    (hlaid : ∀ u ∈ s.timetable.tables, u.laid) (hnone : s.timetable.recompute = none)
    (hday : s.day.state ≠ .open) : s.tablesKept := by
  refine ⟨timetable_sound_iff.2 ⟨hnodup, hlaid, fun c hc => ?_⟩, fun h => absurd hnone h,
    fun h => absurd h hday⟩
  rw [hnone] at hc
  cases hc

theorem tablesKept_takeOpening {s : State} (hplans : s.plansSound) (hs : s.tablesKept)
    (hday : s.day.state ≠ .open) : (takeOpening s).tablesKept := by
  refine tablesKept_of_shut (nominalTables_nodup (s.onDay (openDay s)))
    (fun u hu => laid_of_mem_nominalTables (s := s.onDay (openDay s)) hplans hu)
    (recompute_eq_none (s := s) hs hday) ?_
  exact DayState.noConfusion

/-- A closing ends the recompute in flight, and no table changes (R47). -/
theorem engine_abandonRecompute (s : State) :
    (abandonRecompute s).engine = (setRecompute none s).engine := by
  refine (engine_foldl (fun s (h : Held) => engine_refuse s h.port .dayClosed) _ _).trans ?_
  cases h : s.timetable.recompute with
  | some r => simp only; exact engine_refuse (setRecompute none s) r.port .dayClosed
  | none => exact engine_congr rfl h rfl rfl

/-- What a closing makes of the other blocks before it reaches the Timetable Engine (R14). -/
def closingBlocks (s : State) : State :=
  closeMessages (endHolds (State.onRegister
    (s.onDay fun d => { d with state := .closing, closeTime := some (now s), closePending := false })
    closeWalks))

theorem takeClosing_eq (s : State) : takeClosing s = abandonRecompute (closingBlocks s) := rfl

theorem engine_closingBlocks (s : State) : (closingBlocks s).engine
    = (s.timetable.tables, s.timetable.recompute, .closing, true) := by
  rw [closingBlocks, engine_closeMessages, engine_endHolds]
  rfl

theorem keepsTables_takeClosing : KeepsTables takeClosing := by
  intro s hs
  obtain ⟨hnodup, hall, -⟩ := timetable_sound_iff.1 hs.1
  have htables : (closingBlocks s).timetable.tables = s.timetable.tables :=
    congrArg (·.1) (engine_closingBlocks s)
  have hday : (closingBlocks s).day.state = .closing := congrArg (·.2.2.1) (engine_closingBlocks s)
  rw [takeClosing_eq]
  refine tablesKept_of_engine (engine_abandonRecompute _) (tablesKept_of_shut ?_ ?_ rfl ?_)
  · exact htables ▸ hnodup
  · exact htables ▸ hall
  · exact fun h => DayState.noConfusion (hday.symm.trans h)

/-! ### Minutes, seconds and SET-TIME (R2, R5, R9, R12) -/

theorem keepsTables_autoClose (m : Nat) : KeepsTables (autoClose m) := by
  intro s hs
  unfold autoClose
  split
  · split
    · exact keepsTables_takeClosing s hs
    · exact tablesKept_of_engine (engine_congr rfl rfl rfl rfl) hs
    all_goals exact hs
  · exact hs

theorem tablesKept_autoOpen {s : State} (hplans : s.plansSound) (hs : s.tablesKept) (m : Nat) :
    (autoOpen m s).tablesKept := by
  unfold autoOpen
  split
  · next h => exact tablesKept_takeOpening hplans hs (by simp [h.2.1])
  · exact hs

theorem tablesKept_minuteEvent {s : State} (hplans : s.plansSound) (hs : s.tablesKept) (t : Stamp) :
    (minuteEvent t s).tablesKept :=
  keepsTables_timetableMinute _ _ _
    (keepsTables_autoClose _ _ (tablesKept_autoOpen hplans hs _))

theorem tablesKept_minuteIfWhole {s : State} (hplans : s.plansSound) (hs : s.tablesKept)
    (t : Stamp) : (minuteIfWhole t s).tablesKept := by
  unfold minuteIfWhole
  split
  · exact tablesKept_minuteEvent hplans hs t
  · exact hs

theorem tablesKept_minuteEvents {s : State} (hplans : s.plansSound) (hs : s.tablesKept)
    (l : List Stamp) : (l.foldl (fun s t => minuteEvent t s) s).tablesKept := by
  induction l generalizing s with
  | nil => exact hs
  | cons t l ih =>
    exact ih (plansSound_of_core (core_minuteEvent s t) hplans) (tablesKept_minuteEvent hplans hs t)

/-- Settling the expiries leaves the stored plans. -/
theorem plans_settleExpiries (s : State) : (settleExpiries s).store.plans = s.store.plans :=
  congrArg (·.plans) (core_store (core_settleExpiries s))

theorem engine_settleExpiries (s : State) : (settleExpiries s).engine = s.engine := by
  simp [settleExpiries]

theorem keepsTables_secondTaken : KeepsTables secondTaken :=
  keepsTables_of_engine fun s => by simp [secondTaken]

theorem tablesKept_tick {s : State} (hplans : s.plansSound) (hs : s.tablesKept) (b : Bool) :
    (tick b s).tablesKept := by
  have hsettled : (State.onClock (settleExpiries s) Clock.advance).tablesKept :=
    tablesKept_of_engine ((engine_onClock _ _).trans (engine_settleExpiries s)) hs
  have hplans' : (State.onClock (settleExpiries s) Clock.advance).plansSound :=
    plansSound_of_plans (plans_settleExpiries s) hplans
  unfold tick
  dsimp only
  split
  · exact tablesKept_minuteIfWhole (plansSound_of_core (core_secondTaken _) hplans')
      (keepsTables_secondTaken _ hsettled) _
  · exact keepsTables_secondTaken _ (tablesKept_minuteIfWhole hplans' hsettled _)

theorem tablesKept_serveSetTime {s : State} (hplans : s.plansSound) (hs : s.tablesKept) (p : PortId)
    (time : Nat) (day : DayNumber) (base : Nat) : (serveSetTime p time day base s).tablesKept := by
  unfold serveSetTime
  split
  · exact tablesKept_of_engine (engine_refuse _ _ _) hs
  · dsimp only
    split
    · refine tablesKept_of_engine (engine_answerOk _ _ _) (keepsTables_secondTaken _ ?_)
      refine tablesKept_minuteEvents ?_ ?_ _
      · exact plansSound_of_plans (plans_settleExpiries s) hplans
      · exact tablesKept_of_engine (engine_settleExpiries s) hs
    · exact tablesKept_of_engine (engine_refuse _ _ _) hs

theorem tablesKept_serveDayOpen {s : State} (hplans : s.plansSound) (hs : s.tablesKept)
    (p : PortId) : (serveDayOpen p s).tablesKept := by
  unfold serveDayOpen
  split
  · next hday =>
    split
    · exact tablesKept_of_engine (engine_refuse _ _ _) hs
    · exact tablesKept_of_engine (engine_congr rfl rfl rfl rfl)
        (tablesKept_takeOpening hplans hs (by simp [hday]))
  all_goals exact tablesKept_of_engine (engine_refuse _ _ _) hs

theorem keepsTables_serveDayClose (p : PortId) : KeepsTables (serveDayClose p) := by
  intro s hs
  unfold serveDayClose
  split
  · exact tablesKept_of_engine (engine_congr rfl rfl rfl rfl) (keepsTables_takeClosing s hs)
  all_goals exact tablesKept_of_engine (engine_refuse _ _ _) hs

/-! ### SHIFT, a pass and the swap (R38, R45, R46) -/

/-- A pass a SHIFT starts suits the tables (R44). -/
theorem pass_sound_of_passFor {s : State} (hs : s.timetable.sound) {delay early p : Nat} {x : Pass}
    (h : passFor s delay early p = some x) : x.sound s.timetable.tables := by
  obtain ⟨u, hu, -, rfl⟩ := passFor_eq_some.1 h
  exact tableOf_plan hu ▸ pass_sound_of_mem hs (tableOf_mem hu)

theorem tablesKept_takeShift {s : State} (hs : s.tablesKept) (hday : s.day.state = .open)
    (p : PortId) (r : ShiftReq) : (takeShift p r s).tablesKept := by
  by_cases h : shiftPasses s r = []
  · rw [takeShift_of_no_pass h]
    exact tablesKept_of_engine (engine_answer _ _ _ _ _) hs
  · rw [takeShift_of_passes h]
    obtain ⟨hsound, -, hwalk⟩ := hs
    obtain ⟨hnodup, hall, -⟩ := timetable_sound_iff.1 hsound
    refine ⟨timetable_sound_iff.2 ⟨hnodup, hall, ?_⟩, fun _ => hday, hwalk⟩
    rintro c ⟨⟩ x hx
    obtain ⟨plan, -, hpass⟩ := List.mem_filterMap.1 hx
    exact pass_sound_of_passFor hsound hpass

theorem keepsTables_serveShift (p : PortId) (r : ShiftReq) : KeepsTables (serveShift p r) := by
  intro s hs
  unfold serveShift gateOpen
  split
  · split
    · exact tablesKept_of_engine (engine_refuse _ _ _) hs
    · exact tablesKept_of_engine (engine_refuse _ _ _) hs
    · exact tablesKept_of_engine (engine_holdRequest _ _ _) hs
    · next hday =>
      dsimp only
      split
      · exact tablesKept_of_engine (engine_holdForSwap _ _ _) hs
      · exact tablesKept_takeShift hs hday p r
  · exact tablesKept_of_engine (engine_refuse _ _ _) hs

theorem keepsTables_completePass (plan : Nat) :
    KeepsTables fun s => setRecompute (s.timetable.recompute.map (completePass plan)) s := by
  rintro s ⟨hsound, hopen, hwalk⟩
  obtain ⟨hnodup, hall, hpasses⟩ := timetable_sound_iff.1 hsound
  refine ⟨timetable_sound_iff.2 ⟨hnodup, hall, fun c hc x hx => ?_⟩,
    fun h => hopen fun hnone => h ?_, hwalk⟩
  · obtain ⟨d, hd, rfl⟩ := Option.map_eq_some_iff.1 hc
    obtain ⟨y, hy, rfl⟩ := List.mem_map.1 hx
    split
    · exact pass_sound_complete (hpasses d hd y hy) d.delay d.early
    · exact hpasses d hd y hy
  · exact congrArg (Option.map (completePass plan)) hnone

theorem keepsTables_setRecompute_none : KeepsTables (setRecompute none) := by
  rintro s ⟨hsound, -, hwalk⟩
  obtain ⟨hnodup, hall, -⟩ := timetable_sound_iff.1 hsound
  exact ⟨timetable_sound_iff.2 ⟨hnodup, hall, fun c hc => by cases hc⟩, fun h => absurd rfl h,
    hwalk⟩

/-- A new table that replaces its committed one leaves the recompute as it is (R46). -/
theorem swapTable_recompute (s : State) (x : Pass) :
    (swapTable s x).timetable.recompute = s.timetable.recompute := by
  unfold swapTable
  split <;> rfl

theorem tablesKept_swapTable {s : State} (hs : s.tablesKept) {c : Recompute}
    (hc : s.timetable.recompute = some c) {x : Pass} (hx : x ∈ c.passes) :
    (swapTable s x).tablesKept := by
  unfold swapTable
  split
  · next y old hy hold =>
    obtain ⟨-, -, hlength, hresult⟩ := (timetable_sound_iff.1 hs.1).2.2 c hc x hx
    obtain ⟨hlaid, hplan, hnew⟩ := hresult y hy
    have hlen : y.table.entries.length = old.entries.length :=
      hnew.trans (hlength old (tableOf_mem hold) (tableOf_plan hold)).symm
    exact tablesKept_setTable hs hold (laid_keepCommitted hlaid (laid_of_tableOf hs hold) hlen)
      (hplan.trans (tableOf_plan hold).symm) (keepCommitted_entries_length hlen)
  · exact hs

theorem tablesKept_swapTable_foldl {s : State} (hs : s.tablesKept) {c : Recompute}
    (hc : s.timetable.recompute = some c) {l : List Pass} (hl : ∀ x ∈ l, x ∈ c.passes) :
    (l.foldl swapTable s).tablesKept := by
  induction l generalizing s with
  | nil => exact hs
  | cons x l ih =>
    obtain ⟨hx, hl⟩ := List.forall_mem_cons.1 hl
    exact ih (tablesKept_swapTable hs hc hx) ((swapTable_recompute s x).trans hc) hl

theorem tablesKept_swapTables {s : State} (hs : s.tablesKept) {c : Recompute}
    (hc : s.timetable.recompute = some c) : (swapTables c s).tablesKept := by
  have hnew := keepsTables_setRecompute_none _ (tablesKept_swapTable_foldl hs hc fun _ h => h)
  have hanswered := tablesKept_of_engine
    (engine_answer _ c.port .ok c.anyAdjusted (.shifted c.allFigures)) hnew
  unfold swapTables
  dsimp only
  split
  · exact keepsTables_raiseDue _ _ _ _ hanswered
  · exact hanswered

/-! ### What waited (R11, R15, R46) -/

theorem keepsTables_serveHeld (h : Held) : KeepsTables (serveHeld h) := by
  intro s hs
  obtain ⟨p, request⟩ := h
  cases request
  case shift r => exact keepsTables_serveShift p r s hs
  all_goals exact tablesKept_of_engine (by simp [serveHeld]) hs

theorem keepsTables_takeHeldForSwap (l : List Held) : KeepsTables (takeHeldForSwap l) := by
  intro s hs
  induction l generalizing s with
  | nil => exact hs
  | cons h l ih =>
    unfold takeHeldForSwap
    split
    · exact tablesKept_of_engine rfl hs
    · exact ih _ (keepsTables_serveHeld h s hs)

theorem tablesKept_takeSwap {s : State} (hs : s.tablesKept) {c : Recompute}
    (hc : s.timetable.recompute = some c) : (takeSwap c s).tablesKept := by
  refine keepsTables_takeHeldForSwap _ _ (tablesKept_swapTables ?_ hc)
  exact tablesKept_of_engine rfl hs

theorem keepsTables_takeOne (w : Waiting) : KeepsTables (takeOne w) := by
  cases w with
  | request h => exact keepsTables_serveHeld h
  | close => exact keepsTables_takeClosing

theorem keepsTables_takeWaiting (n : Nat) (order : List Nat) (todo : List Waiting) :
    KeepsTables (takeWaiting n order todo) := by
  intro s hs
  induction n generalizing order todo s with
  | zero => exact hs
  | succ n ih =>
    unfold takeWaiting
    dsimp only
    split
    · exact hs
    · exact ih _ _ _ (keepsTables_takeOne _ s hs)

theorem keepsTables_releaseHeld (order : List Nat) : KeepsTables (releaseHeld order) := fun _ hs =>
  keepsTables_takeWaiting _ _ _ _ (tablesKept_of_engine (engine_congr rfl rfl rfl rfl) hs)

/-! ### The walks complete (R11, R15) -/

/-- A walk that completes leaves the walker with no walk in hand or with a waiting item (R117). -/
theorem dropWalk_ne_closeWalk (r : DayRegister) : (dropWalk r).walker.hand ≠ some .closeWalk :=
  fun h => nomatch (takeItem_closeWalk _).1 h

theorem keepsTables_openTimetable : KeepsTables openTimetable := by
  intro s hs
  unfold openTimetable
  split
  · exact keepsTables_raiseDue _ _ _ _ (tablesKept_of_engine (engine_setCurrent _ _) hs)
  · exact hs

theorem engine_answerOpened (s : State) : (answerOpened s).engine = s.engine := by
  unfold answerOpened
  split
  · rfl
  · exact engine_answerOk _ _ _

theorem keepsTables_completeOpen (order : List Nat) : KeepsTables (completeOpen order) := by
  rintro s ⟨hsound, hopen, -⟩
  have hday : (State.onRegister (s.onDay fun d => { d with state := .open }) dropWalk).tablesKept :=
    ⟨hsound, fun _ => rfl, fun _ => dropWalk_ne_closeWalk s.register⟩
  refine keepsTables_releaseHeld order _ (tablesKept_of_engine (engine_answerOpened _) ?_)
  exact tablesKept_of_engine (engine_onRoll _ _) (keepsTables_openTimetable _ hday)

theorem engine_answerClosed (d : DayNumber) (t : Stamp) (s : State) :
    (answerClosed d t s).engine = s.engine := by
  unfold answerClosed
  split
  · rfl
  · exact engine_answerOk _ _ _

/-- A close walk is in hand outside OPEN alone, where no recompute is in flight (R13, R47). -/
theorem tablesKept_completeClose {s : State} (hs : s.tablesKept)
    (hhand : s.register.walker.hand = some .closeWalk) (order : List Nat) :
    (completeClose order s).tablesKept := by
  have hnone := recompute_eq_none hs fun hday => hs.2.2 hday hhand
  refine keepsTables_releaseHeld order _ (tablesKept_of_engine (engine_answerClosed _ _ _) ?_)
  exact tablesKept_of_shut List.nodup_nil (fun _ hu => absurd hu List.not_mem_nil) hnone
    DayState.noConfusion

/-! ### Resets (R17, R18, R32) -/

theorem tablesKept_restartWith (clock : Clock) (roles : Vector Role 6) (s : State) :
    (restartWith clock roles s).tablesKept :=
  tablesKept_of_shut List.nodup_nil (fun _ hu => absurd hu List.not_mem_nil) rfl
    DayState.noConfusion

theorem keepsTables_takeDown {f : State → State} (hf : KeepsTables f) (t : PortId) (x : PortState)
    (c : Option Nat) : KeepsTables (takeDown t x c f) := by
  intro s hs
  unfold takeDown
  dsimp only
  split
  · exact tablesKept_restartWith _ _ _
  · exact hf _ (tablesKept_of_engine (engine_setPort _ _ _) hs)

theorem keepsTables_servePortPark (p : PortId) (n : Nat) : KeepsTables (servePortPark p n) := by
  intro s hs
  unfold servePortPark
  split
  · exact tablesKept_of_engine (engine_refuse _ _ _) hs
  · split
    · exact tablesKept_of_engine (engine_refuse _ _ _) hs
    · dsimp only
      split
      · exact keepsTables_takeDown (keepsTables_of_engine fun s => by simp) _ _ _ s hs
      all_goals exact tablesKept_of_engine (by simp) hs

theorem keepsTables_servePortCycle (p : PortId) (n : Nat) : KeepsTables (servePortCycle p n) := by
  intro s hs
  unfold servePortCycle
  split
  · exact tablesKept_of_engine (engine_refuse _ _ _) hs
  · split
    · exact tablesKept_of_engine (engine_refuse _ _ _) hs
    · split
      · exact tablesKept_of_engine (engine_refuse _ _ _) hs
      · exact keepsTables_takeDown (keepsTables_of_engine fun s => by simp) _ _ _ s hs
      · exact tablesKept_of_engine (by simp) hs

end TimetableLaws

end Sys2Proof.Machine
end

section
/-! SUPPORT. Every command keeps the effective timetables laid out and a recompute to OPEN (R43, R44,
R47): requests by their owners, events by their effects, and the rest one by one. -/

namespace Sys2Proof.Machine

open Sys2Proof

namespace TimetableLaws

/-! ### Requests, events and visits -/

/-- A command that goes on to a state that keeps the invariant. -/
def NextKept (o : Host.Outcome State Fault Refusal) : Prop := ∀ t, o = .next t → t.tablesKept

theorem nextKept_next {s : State} (hs : s.tablesKept) : NextKept (.next s) := by
  rintro t ⟨⟩
  exact hs

/-- A frame is taken by the owner of its request, or leaves the engine's part (R163). -/
theorem takeFrame_cases (f : Frame) (k : Kind) (owner : State → State) (s : State) :
    takeFrame f k owner s = owner (enterService f.port k.octet f.tag s)
      ∨ (takeFrame f k owner s).engine = s.engine := by
  unfold takeFrame
  split
  · split
    · exact .inr (by simp)
    · dsimp only
      split
      · exact .inr (by simp)
      · split
        · exact .inr (by simp)
        · exact .inl rfl
  · exact .inr rfl

/-- A request whose owner keeps the invariant from the state in which its port is in service. -/
theorem nextKept_request_of {s : State} (hs : s.tablesKept) {f : Frame} {k : Kind}
    {owner : State → State}
    (h : (owner (enterService f.port k.octet f.tag s)).tablesKept) :
    NextKept (request f k owner s) := by
  refine nextKept_next ?_
  rcases takeFrame_cases f k owner s with heq | heq
  · rwa [heq]
  · exact tablesKept_of_engine heq hs

theorem nextKept_request {s : State} (hs : s.tablesKept) {f : Frame} {k : Kind}
    {owner : State → State} (h : KeepsTables owner) : NextKept (request f k owner s) :=
  nextKept_request_of hs (h _ (tablesKept_of_engine (engine_enterService _ _ _ _) hs))

theorem nextKept_event {s : State} (hs : s.tablesKept) {effect : State → State}
    (h : (effect s).tablesKept) : NextKept (event effect s) := by
  refine nextKept_next ?_
  split
  · exact h
  · exact hs

theorem nextKept_event_of_engine {s : State} (hs : s.tablesKept) {effect : State → State}
    (h : (effect s).engine = s.engine) : NextKept (event effect s) :=
  nextKept_event hs (tablesKept_of_engine h hs)

/-- A visit of the register walker whose effect leaves the engine's part. -/
theorem nextKept_visit {s : State} (hs : s.tablesKept) {effect : Walk → Nat → State → Option State}
    (h : ∀ w k s t, effect w k s = some t → t.engine = s.engine) :
    NextKept (event (visit effect) s) := by
  refine nextKept_event_of_engine hs ?_
  unfold visit
  split
  · rfl
  · split
    · split
      · next t ht => exact (engine_advanceCursor t).trans (h _ _ _ _ ht)
      · rfl
    · rfl

theorem nextKept_walkComplete {s : State} (hs : s.tablesKept) : NextKept (execWalkComplete s) := by
  refine nextKept_event_of_engine hs ?_
  split
  · next i hi =>
    split
    · refine engine_onRegister (iff_of_false (dropWalk_ne_closeWalk _) ?_)
      rw [hi]
      exact nofun
    · rfl
  all_goals rfl

/-! ### Commands -/

theorem nextKept_exec (i : Instr) {s : State} (hplans : s.plansSound) (hs : s.tablesKept) :
    NextKept (exec i s) := by
  cases i
  all_goals dsimp only [exec]
  case powerOnReset => exact nextKept_next (tablesKept_restartWith _ _ _)
  case resetNLow => exact nextKept_next (tablesKept_of_engine rfl hs)
  case secondEvent b => exact nextKept_event hs (tablesKept_tick hplans hs b)
  case pushAssert | pushRelease | alarmAssert | alarmRelease =>
    refine nextKept_event_of_engine (tablesKept_of_engine (engine_withLines s _) hs) ?_
    simp
  case setTime f time day base =>
    refine nextKept_request_of hs (tablesKept_serveSetTime ?_ ?_ _ _ _ _)
    · exact plansSound_of_core (core_enterService _ _ _ _) hplans
    · exact tablesKept_of_engine (engine_enterService _ _ _ _) hs
  case dayOpen f =>
    refine nextKept_request_of hs (tablesKept_serveDayOpen ?_ ?_ _)
    · exact plansSound_of_core (core_enterService _ _ _ _) hplans
    · exact tablesKept_of_engine (engine_enterService _ _ _ _) hs
  case dayClose f => exact nextKept_request hs (keepsTables_serveDayClose _)
  case restartEffect =>
    refine nextKept_event hs ?_
    split
    · exact tablesKept_restartWith _ _ _
    · exact hs
  case openWalkVisit | closeWalkVisit | sessionSweepVisit | routeSweepVisit | groupWalkVisit =>
    refine nextKept_visit hs fun w k s t h => ?_
    split at h
    · cases h
      simp
    all_goals cases h
  case walkComplete => exact nextKept_walkComplete hs
  case openWalkComplete order =>
    refine nextKept_event hs ?_
    split
    · exact keepsTables_completeOpen order s hs
    · exact hs
  case closeWalkComplete order =>
    refine nextKept_event hs ?_
    split
    · next h => exact tablesKept_completeClose hs h.1 order
    · exact hs
  case shift f r => exact nextKept_request hs (keepsTables_serveShift _ r)
  case recomputePassComplete plan => exact nextKept_event hs (keepsTables_completePass plan s hs)
  case swap =>
    refine nextKept_event hs ?_
    split
    · next c hc =>
      split
      · exact tablesKept_takeSwap hs hc
      · exact hs
    · exact hs
  case portPark f n => exact nextKept_request hs (keepsTables_servePortPark _ n)
  case portCycle f n => exact nextKept_request hs (keepsTables_servePortCycle _ n)
  case bellCountExpiry | pushLimitExpiry | routeHoldExpiry | alertStateReport | handoverTimeout
      | replyComplete =>
    refine nextKept_event_of_engine hs ?_
    simp
  case raiseAlert | leaveUnexplained | callListAdd | latenessAccrual | openMinutesAccrual | fold
      | rollBuildVisit | rollBuildComplete | presenceChange | frameHeaderFault | frameCheckFault
      | receiveGapTimeout | frameOverlap | unknownKindFrame | portCycleEnd | syncOctet =>
    refine nextKept_event_of_engine hs ?_
    repeat' split
    all_goals simp
  case setReplyLimit | linkStatus | readFaults | clearFaults =>
    refine nextKept_request hs (keepsTables_of_engine fun s => ?_)
    simp [serveSetReplyLimit, serveLinkStatus, serveReadFaults, serveClearFaults]
  -- What is left are requests whose owners leave the engine's part.
  all_goals exact nextKept_request hs (keepsTables_of_engine fun s => by simp)

/-- Settles O35, by cases on the command: an opening builds its tables from valid plans, a pass works out
what R42 makes of a table laid out, and the swap keeps the begun entries at the front. -/
theorem everyStepKeepsTablesLaid : Obligations.EveryStepKeepsTablesLaid := by
  intro s t hstore hsound hopen hstep
  have hs : s.tablesKept := ⟨hsound, hopen⟩
  unfold step at hstep
  split at hstep
  · cases hstep
    exact hs
  · next i rest _ =>
    exact nextKept_exec i (s := { s with pending := rest }) (plansSound_of_store hstore)
      (tablesKept_of_engine (engine_withPending s rest) hs) t hstep

end TimetableLaws

end Sys2Proof.Machine
end

section
/-! SUPPORT. What the operations of the Bell Unit leave of each line, of the push and of the flags, said
once (R49 to R51, R57 to R61). -/

namespace Sys2Proof.Machine

open Sys2Proof

/-- The follow of a zone set has been withdrawn (R58, R59): no other line changes, a line of the set that
had no seconds left is SILENT, and one that had some sounds on without follow. -/
def FollowWithdrawn (zones : EightSet) (before after : Vector BellLine 8) : Prop :=
  (∀ z : Zone, zones.getLsbD z = false → after[z] = before[z])
  ∧ (∀ z : Zone, zones.getLsbD z = true → before[z] = .sounding .continuous 0 true →
      after[z] = .silent)
  ∧ ∀ (z : Zone) n, zones.getLsbD z = true → before[z] = .sounding .continuous (n + 1) true →
      after[z] = .sounding .continuous (n + 1) false

/-- The push after a second event: a followed push comes one nearer its limit (R58). -/
def PushState.second : PushState → PushState
  | .following zones limit => .following zones (limit - 1)
  | .released => .released
  | .held => .held

namespace BellLaws

/-! ### One place of a table, one line -/

theorem getElem_mapNth {α β : Type} {n : Nat} (f : Fin n → α → β) (v : Vector α n) (i : Fin n) :
    (mapNth f v)[i] = f i v[i] := by
  simp [mapNth]

theorem tick_expire_sounding (k : LinePattern) (n : Nat) (follow : Bool) :
    ((BellLine.sounding k n follow).expire).tick
      = if n = 0 ∧ follow = false then .silent else .sounding k (n - 1) follow :=
  apply_ite BellLine.tick _ _ _

variable (u : BellUnit)

/-! ### A change to the lines of a zone set -/

theorem onZones_eq (zones : EightSet) (f : BellLine → BellLine) :
    u.onZones zones f = { u with lines := (u.onZones zones f).lines } := rfl

theorem onZones_lines_of_mem {zones : EightSet} {z : Zone} (h : zones.getLsbD z = true)
    (f : BellLine → BellLine) : (u.onZones zones f).lines[z] = f u.lines[z] :=
  (getElem_mapNth _ _ _).trans (if_pos h)

theorem onZones_lines_of_not_mem {zones : EightSet} {z : Zone} (h : zones.getLsbD z = false)
    (f : BellLine → BellLine) : (u.onZones zones f).lines[z] = u.lines[z] :=
  (getElem_mapNth _ _ _).trans (if_neg (by simp only [h, Bool.false_eq_true, not_false_eq_true]))

theorem followWithdrawn_onZones (zones : EightSet) :
    FollowWithdrawn zones u.lines (u.onZones zones BellLine.unfollow).lines := by
  refine ⟨fun z hz => onZones_lines_of_not_mem u hz _, fun z hz hline => ?_, fun z n hz hline => ?_⟩
  · rw [onZones_lines_of_mem u hz, hline]
    rfl
  · rw [onZones_lines_of_mem u hz, hline]
    rfl

/-! ### Expiries and the second event (R50, R58) -/

theorem limitReached_following {zones : EightSet} (h : u.push = .following zones 0) :
    u.limitReached = { u.onZones zones BellLine.unfollow with push := .held } := by
  simp [BellUnit.limitReached, h]

theorem limitReached_of_ne (h : ∀ zones, u.push ≠ .following zones 0) : u.limitReached = u := by
  unfold BellUnit.limitReached
  split
  · next zones hpush => exact absurd hpush (h zones)
  · rfl

@[simp] theorem settle_alarm : u.settle.alarm = u.alarm := by
  unfold BellUnit.settle BellUnit.limitReached
  dsimp only
  split <;> rfl

/-- Settling while no push limit is reached changes the lines alone. -/
theorem settle_of_ne (h : ∀ zones, u.push ≠ .following zones 0) :
    u.settle = { u with lines := u.settle.lines } := by
  rw [BellUnit.settle, limitReached_of_ne u h]

theorem settle_lines_of_ne (h : ∀ zones, u.push ≠ .following zones 0) (z : Zone) :
    u.settle.lines[z] = (u.lines[z]).expire := by
  rw [BellUnit.settle, limitReached_of_ne u h]
  exact getElem_mapNth _ _ _

theorem second_lines (z : Zone) : u.second.lines[z] = (u.settle.lines[z]).tick :=
  getElem_mapNth _ _ _

/-- While no push limit is reached, a second event lets what had reached 0 without follow fall SILENT and
takes every other count one down (R50). -/
theorem second_lines_of_ne (h : ∀ zones, u.push ≠ .following zones 0) (z : Zone) :
    u.second.lines[z] = ((u.lines[z]).expire).tick := by
  rw [second_lines, settle_lines_of_ne u h]

theorem second_push : u.second.push = u.settle.push.second := by
  cases h : u.settle.push <;> simp [BellUnit.second, PushState.second, h]

theorem second_push_of_ne (h : ∀ zones, u.push ≠ .following zones 0) :
    u.second.push = u.push.second := by
  rw [second_push, settle_of_ne u h]

end BellLaws

end Sys2Proof.Machine
end

section
/-! SUPPORT. Expiries and seconds of the Bell Unit settled: a quiet second, the expiry of a count and of
the push limit (R50, R58). -/

namespace Sys2Proof.Machine

open Sys2Proof

namespace BellLaws

/-! ### A quiet second -/

theorem settleExpiries_of_none {s : State} (hholds : s.arrivals.holds = [])
    (hout : ∀ e ∈ s.messages.outbound, e.handed = none) : settleExpiries s = s := by
  have htags : (s.messages.outbound.filterMap fun e => e.handed.map (·.tag)) = [] :=
    List.filterMap_eq_nil_iff.2 fun e he => by simp [hout e he]
  simp [settleExpiries, expireHolds, hholds, expireHandovers, htags]

theorem tick_of_no_minute {s : State} (hsettled : settleExpiries s = s)
    (htime : s.clock.time + 1 < 86400) (hminute : (s.clock.time + 1) % 60 ≠ 0) (b : Bool) :
    tick b s = secondTaken
      { s with clock := ⟨s.clock.time + 1, s.clock.day, 0, s.clock.valid⟩ } := by
  have hclock : s.onClock Clock.advance
      = { s with clock := ⟨s.clock.time + 1, s.clock.day, 0, s.clock.valid⟩ } := by
    simp [State.onClock, Clock.advance, htime]
  cases b with
  | true => simp [tick, hsettled, hclock, minuteIfWhole, now, hminute]
  | false => simp [tick, hsettled, hclock, minuteIfWhole, now, hminute]

/-- Settles O15: with no expiry owed and no minute raised, the second is what the Bell Unit makes of it. -/
theorem quietSecondCountsTheBells : Obligations.QuietSecondCountsTheBells := by
  intro s b hreset hholds hout htime hminute hpush
  have hsecond := second_push_of_ne s.bells hpush
  refine ⟨s.bells.second, ?_, settle_alarm s.bells, ?_, fun z hz => ?_, fun z k n follow hz => ?_,
    fun h => ?_, fun h => ?_, fun zones n h => ?_⟩
  · show event (tick b) s = _
    rw [event_awake hreset, tick_of_no_minute (settleExpiries_of_none hholds hout) htime hminute]
    simp [secondTaken, endWaits, State.onBells, hholds]
  · show s.bells.settle.quiet = _
    rw [settle_of_ne s.bells hpush]
  · rw [second_lines_of_ne s.bells hpush, hz]
    rfl
  · rw [second_lines_of_ne s.bells hpush, hz, tick_expire_sounding]
  all_goals
    rw [hsecond, h]
    rfl

/-! ### The expiries -/

theorem exec_bellCountExpiry {s : State} (hreset : s.lines.resetN = true) (z : Zone) :
    exec (.bellCountExpiry z) s = .next (s.onBells fun u =>
      { u with lines := u.lines.set z (u.lines[z]).expire }) := by
  simp only [exec, execBellCountExpiry, event_awake hreset]

theorem exec_pushLimitExpiry {s : State} (hreset : s.lines.resetN = true) :
    exec .pushLimitExpiry s = .next (s.onBells (·.limitReached)) := by
  simp only [exec, execPushLimitExpiry, event_awake hreset]

theorem expire_of_ne {l : BellLine} (h : ∀ k, l ≠ .sounding k 0 false) : l.expire = l := by
  cases l with
  | silent => rfl
  | sounding k n follow => exact if_neg fun ⟨hn, hf⟩ => h k (by rw [hn, hf])

/-- Settles O18: a count expiry touches its own line, a limit expiry the recorded zones. -/
theorem bellExpiriesSilenceTheirLines : Obligations.BellExpiriesSilenceTheirLines := by
  intro s hreset
  refine ⟨fun z => ⟨_, exec_bellCountExpiry hreset z, rfl, fun w hw => ?_, fun k hk => ?_,
    fun hk => ?_⟩, fun zones hpush => ⟨_, exec_pushLimitExpiry hreset, ?_, ?_⟩, fun hpush => ?_⟩
  · have hne : (z : Nat) ≠ w := fun h => hw (Fin.ext h.symm)
    simp [hne]
  · exact (Vector.getElem_set_self _).trans (congrArg BellLine.expire hk)
  · exact (Vector.getElem_set_self _).trans (expire_of_ne hk)
  · simp only [State.onBells, limitReached_following _ hpush]
    rfl
  · simp only [onBells_bells, limitReached_following _ hpush]
    exact followWithdrawn_onZones s.bells zones
  · rw [exec_pushLimitExpiry hreset, State.onBells, limitReached_of_ne _ hpush]

end BellLaws

end Sys2Proof.Machine
end

section
/-! SUPPORT. The requests and the push of the Bell Unit settled: PUSH, RING and WRITE-QUIET (R49 to R59). -/

namespace Sys2Proof.Machine

open Sys2Proof

namespace BellLaws

/-! ### The office push (R57 to R59) -/

variable {u : BellUnit} {settings : Settings}

theorem push_ne_following_of_released (h : u.push = .released) :
    ∀ zones, u.push ≠ .following zones 0 := by
  intro zones
  rw [h]
  exact PushState.noConfusion

theorem pushOn_of_ne_released (h : u.push ≠ .released) : u.pushOn settings = u := by
  unfold BellUnit.pushOn
  split
  · next hpush => exact absurd hpush h
  all_goals rfl

theorem pushOn_alarm (h : u.push = .released) (halarm : u.alarm = true) :
    u.pushOn settings = { u with push := .held } := by
  simp [BellUnit.pushOn, h, halarm]

theorem request_of_clear (halarm : u.alarm = false) (zones : EightSet) (k : LinePattern)
    (length : Nat) : u.request zones k length = u.settle.onZones zones (BellLine.ring k length) := by
  simp [BellUnit.request, halarm]

theorem request_of_alarm (halarm : u.alarm = true) (zones : EightSet) (k : LinePattern)
    (length : Nat) : u.request zones k length = u := by
  simp [BellUnit.request, halarm]

theorem pushOn_timed (h : u.push = .released) (halarm : u.alarm = false)
    (hmode : settings.pushMode = .timed) :
    u.pushOn settings = { u with
      push := .held
      lines := (u.settle.onZones settings.pushZones
        (BellLine.ring .continuous settings.pushLength)).lines } := by
  simp only [BellUnit.pushOn, h, halarm, hmode, request_of_clear]
  rw [onZones_eq, settle_of_ne u (push_ne_following_of_released h)]
  simp [halarm]

theorem pushOn_follow (h : u.push = .released) (halarm : u.alarm = false)
    (hmode : settings.pushMode = .follow) :
    u.pushOn settings = { u with
      push := .following settings.pushZones 60
      lines := (u.settle.onZones settings.pushZones BellLine.follow).lines } := by
  simp only [BellUnit.pushOn, h, halarm, hmode]
  rw [onZones_eq, settle_of_ne u (push_ne_following_of_released h)]
  simp [halarm]

theorem pushOff_of_not_following (h : u.push = .released ∨ u.push = .held) :
    u.pushOff = { u with push := .released } := by
  rcases h with h | h
  · simp only [BellUnit.pushOff, h]
    rw [← h]
  · simp only [BellUnit.pushOff, h]

theorem pushOff_following {zones : EightSet} {limit : Nat} (h : u.push = .following zones limit) :
    u.pushOff = { u with
      lines := (u.onZones zones BellLine.unfollow).lines, push := .released } := by
  simp only [BellUnit.pushOff, h]
  rfl

theorem exec_pushAssert {s : State} (hreset : s.lines.resetN = true) :
    exec .pushAssert s = .next { s with
      lines := { s.lines with push := true }, bells := s.bells.pushOn s.store.settings } := by
  simp only [exec, execPushAssert, event, hreset, if_true]
  rfl

theorem exec_pushRelease {s : State} (hreset : s.lines.resetN = true) :
    exec .pushRelease s = .next { s with
      lines := { s.lines with push := false }, bells := s.bells.pushOff } := by
  simp only [exec, execPushRelease, event, hreset, if_true]
  rfl

/-- Settles O20: each row of R57 to R59 is an equation of `pushOn` or `pushOff`. -/
theorem pushRingsByItsMode : Obligations.PushRingsByItsMode := by
  intro s hreset
  refine ⟨fun hpush => ?_, fun hpush halarm => ?_, fun hpush halarm => ?_, fun hpush => ?_,
    fun zones limit hpush => ⟨_, exec_pushRelease hreset, ?_, ?_⟩⟩
  · rw [exec_pushAssert hreset, pushOn_of_ne_released hpush]
  · rw [exec_pushAssert hreset, pushOn_alarm hpush halarm]
  · refine ⟨_, exec_pushAssert hreset, ?_⟩
    cases hmode : s.store.settings.pushMode with
    | timed =>
      rw [pushOn_timed hpush halarm hmode]
      exact ⟨rfl, fun z hz => onZones_lines_of_not_mem _ hz _, fun _ => ⟨rfl, fun z hz =>
          ⟨fun hline => (onZones_lines_of_mem _ hz _).trans (congrArg _ hline),
            fun j n follow hline => (onZones_lines_of_mem _ hz _).trans (congrArg _ hline)⟩⟩,
        PushMode.noConfusion⟩
    | follow =>
      rw [pushOn_follow hpush halarm hmode]
      exact ⟨rfl, fun z hz => onZones_lines_of_not_mem _ hz _, PushMode.noConfusion,
        fun _ => ⟨rfl, fun z hz =>
          ⟨fun hline => (onZones_lines_of_mem _ hz _).trans (congrArg _ hline),
            fun j n follow hline => (onZones_lines_of_mem _ hz _).trans (congrArg _ hline)⟩⟩⟩
  · rw [exec_pushRelease hreset, pushOff_of_not_following hpush]
  · simp only [pushOff_following hpush]
  · simp only [pushOff_following hpush]
    exact followWithdrawn_onZones s.bells zones

/-! ### RING (R51, R56) -/

theorem onBells_serving (s : State) (f : Frame) (k : Kind) (g : BellUnit → BellUnit) :
    (s.serving f k).onBells g = (s.onBells g).serving f k := rfl

/-- The numbers a pass over the zones gathers in a set. -/
theorem getLsbD_foldl_only {p : Zone → Prop} [DecidablePred p] (l : List Zone) (set : EightSet)
    (z : Zone) :
    (l.foldl (fun set (z : Zone) => if p z then set ||| only 8 z.val else set) set).getLsbD z = true
      ↔ set.getLsbD z = true ∨ (z ∈ l ∧ p z) := by
  induction l generalizing set with
  | nil => simp
  | cons x l ih =>
    have hx : (only 8 x.val).getLsbD z = decide (x = z) := by
      simp [only, Fin.ext_iff, eq_comm]
    rw [List.foldl_cons, ih]
    by_cases hp : p x
    · rw [if_pos hp, BitVec.getLsbD_or, hx, List.mem_cons, Bool.or_eq_true, decide_eq_true_iff]
      constructor
      · rintro ((h | rfl) | ⟨hl, hz⟩)
        · exact .inl h
        · exact .inr ⟨.inl rfl, hp⟩
        · exact .inr ⟨.inr hl, hz⟩
      · rintro (h | ⟨rfl | hl, hz⟩)
        · exact .inl (.inl h)
        · exact .inl (.inr rfl)
        · exact .inr ⟨hl, hz⟩
    · rw [if_neg hp, List.mem_cons]
      constructor
      · rintro (h | ⟨hl, hz⟩)
        · exact .inl h
        · exact .inr ⟨.inr hl, hz⟩
      · rintro (h | ⟨rfl | hl, hz⟩)
        · exact .inl h
        · exact absurd hz hp
        · exact .inr ⟨hl, hz⟩

/-- The zones a request starts are those of its set whose lines are SILENT (R51). -/
theorem getLsbD_silentZones (u : BellUnit) (zones : EightSet) (z : Zone) :
    (u.silentZones zones).getLsbD z = true
      ↔ zones.getLsbD z = true ∧ u.settle.lines[z] = .silent := by
  rw [BellUnit.silentZones, getLsbD_foldl_only]
  simp [List.mem_finRange]

theorem getLsbD_sdiff (a b : EightSet) (z : Zone) :
    (a &&& ~~~b).getLsbD z = true ↔ a.getLsbD z = true ∧ ¬ b.getLsbD z = true := by
  simp

theorem serveRing_refused {zones : EightSet} {pattern : Option BellPattern}
    (h : zones = 0 ∨ pattern = none ∨ pattern = some .none) (p : PortId) (s : State) :
    serveRing p zones pattern s = refuse p .badField s := by
  unfold serveRing
  rcases h with rfl | rfl | rfl
  · split
    · exact if_pos rfl
    · rfl
  · rfl
  · rfl

theorem serveRing_alarm {zones : EightSet} {pattern : Option BellPattern} {k : LinePattern} {s : State}
    (hk : pattern.bind linePattern = some k) (hz : zones ≠ 0) (halarm : s.bells.alarm = true)
    (p : PortId) : serveRing p zones pattern s
      = answerOk p (.rung ⟨0, 0, true, s.bells.lines⟩) s := by
  simp only [serveRing, hk, if_neg hz, halarm, if_true, State.onBells, request_of_alarm]

theorem serveRing_clear {zones : EightSet} {pattern : Option BellPattern} {k : LinePattern} {s : State}
    (hk : pattern.bind linePattern = some k) (hz : zones ≠ 0) (halarm : s.bells.alarm = false)
    (p : PortId) : serveRing p zones pattern s
      = answerOk p (.rung ⟨s.bells.silentZones zones, zones &&& ~~~(s.bells.silentZones zones), false,
            (s.bells.settle.onZones zones (BellLine.ring k (patternLength k))).lines⟩)
          (s.onBells fun u => u.settle.onZones zones (BellLine.ring k (patternLength k))) := by
  simp only [serveRing, hk, if_neg hz, halarm, Bool.false_eq_true, if_false, State.onBells,
    request_of_clear]

/-- Settles O19: what `silentZones` gathers starts, what it leaves of the set is merged. -/
theorem ringStartsAndMergesLines : Obligations.RingStartsAndMergesLines := by
  intro s f zones pattern hready
  have hexec : exec (.ring f zones pattern) s
      = .next (serveRing f.port zones pattern (s.serving f .ring)) := request_of_ready hready _
  refine ⟨fun hbad => ?_, fun k length hzones hpattern => ?_⟩
  · rw [hexec, serveRing_refused hbad, refuse_serving]
  obtain ⟨hk, rfl⟩ : pattern.bind linePattern = some k ∧ length = patternLength k := by
    rcases hpattern with ⟨rfl, rfl, rfl⟩ | ⟨rfl, rfl, rfl⟩ | ⟨rfl, rfl, rfl⟩ <;> exact ⟨rfl, rfl⟩
  refine ⟨fun halarm => ?_, fun halarm => ?_⟩
  · rw [hexec, serveRing_alarm (s := s.serving f .ring) hk hzones halarm, answerOk_serving]
    rfl
  refine ⟨s.bells.settle.onZones zones (BellLine.ring k (patternLength k)),
    s.bells.silentZones zones, zones &&& ~~~(s.bells.silentZones zones), ?_, onZones_eq _ _ _,
    fun z => ?_⟩
  · rw [hexec, serveRing_clear (s := s.serving f .ring) hk hzones halarm, onBells_serving,
      answerOk_serving]
    rfl
  simp only [← Bool.not_eq_true, getLsbD_sdiff, getLsbD_silentZones]
  refine ⟨fun hz => ⟨onZones_lines_of_not_mem _ (Bool.eq_false_of_not_eq_true hz) _, fun h => hz h.1,
    fun h => hz h.1⟩, fun hz hline => ?_, fun j n follow hz hline => ?_⟩
  · rw [onZones_lines_of_mem _ hz, hline]
    exact ⟨rfl, ⟨hz, rfl⟩, fun h => h.2 ⟨hz, rfl⟩⟩
  · rw [onZones_lines_of_mem _ hz, hline]
    exact ⟨rfl, fun h => BellLine.noConfusion h.2, hz, fun h => BellLine.noConfusion h.2⟩

/-! ### WRITE-QUIET (R53, R54) -/

theorem quietWindow_taken {r : QuietReq} {w : QuietWindow}
    (h : r = .empty ∧ w = .empty
      ∨ (∃ a b zones, r = .clock a b zones ∧ w = .clock a b zones ∧ a < b ∧ b ≤ 1439 ∧ zones ≠ 0)
      ∨ (∃ plan a b zones, r = .anchored plan a b zones ∧ w = .anchored plan a b zones
          ∧ 1 ≤ plan ∧ plan ≤ 8 ∧ a ≤ b ∧ b ≤ 23 ∧ zones ≠ 0)) : quietWindow r = some w := by
  rcases h with ⟨rfl, rfl⟩ | ⟨a, b, zones, rfl, rfl, hab, hb, hz⟩
    | ⟨plan, a, b, zones, rfl, rfl, hlow, hhigh, hab, hb, hz⟩
  · rfl
  · exact if_pos ⟨by omega, hb, hab, hz⟩
  · exact if_pos ⟨by simp [within, hlow, hhigh], by omega, hb, hab, hz⟩

theorem quietWindow_refused {r : QuietReq}
    (h : r = .unknown
      ∨ (∃ a b zones, r = .clock a b zones ∧ (1439 < a ∨ 1439 < b ∨ b ≤ a ∨ zones = 0))
      ∨ (∃ plan a b zones, r = .anchored plan a b zones
          ∧ (plan = 0 ∨ 8 < plan ∨ 23 < a ∨ 23 < b ∨ b < a ∨ zones = 0))) :
    quietWindow r = none := by
  rcases h with rfl | ⟨a, b, zones, rfl, h⟩ | ⟨plan, a, b, zones, rfl, h⟩
  · rfl
  · refine if_neg fun ⟨ha, hb, hab, hz⟩ => ?_
    rcases h with h | h | h | h
    · omega
    · omega
    · omega
    · exact hz h
  · refine if_neg fun ⟨hplan, ha, hb, hab, hz⟩ => ?_
    simp only [within, Bool.and_eq_true, decide_eq_true_eq] at hplan
    rcases h with h | h | h | h | h | h
    · omega
    · omega
    · omega
    · omega
    · omega
    · exact hz h

theorem serveWriteQuiet_taken {r : QuietReq} {w : QuietWindow} (h : quietWindow r = some w)
    (n : Fin 8) (s : State) (f : Frame) (k : Kind) :
    serveWriteQuiet f.port n r (s.serving f k)
      = State.replied f k .ok false (.quiet ((s.bells.quiet.set n w).toList.map (quietItem s)))
          { s with bells := { s.bells with quiet := s.bells.quiet.set n w } } := by
  have hset : ∀ v : Vector QuietWindow 8, setNth v n w = v.set n w := fun v => dif_pos n.isLt
  simp only [serveWriteQuiet, h, n.isLt, if_true, hset, onBells_serving, answerOk_serving]
  rfl

theorem serveWriteQuiet_refused {r : QuietReq} {number : Nat}
    (h : 7 < number ∨ quietWindow r = none) (p : PortId) (s : State) :
    serveWriteQuiet p number r s = refuse p .badField s := by
  unfold serveWriteQuiet
  split
  · next w hw =>
    refine if_neg fun hlt => ?_
    rcases h with h | h
    · omega
    · exact Option.some_ne_none w (hw.symm.trans h)
  · rfl

theorem anchoredSpan_of_entries {s : State} {plan a b : Nat} {t : PlanTable} {x y : EffEntry}
    (ht : tableOf s plan = some t) (hx : t.entries[a]? = some x) (hy : t.entries[b]? = some y) :
    anchoredSpan s plan a b = some (x.start, y.start + y.length) := by
  simp [anchoredSpan, ht, hx, hy]

theorem anchoredSpan_eq_none {s : State} {plan a b : Nat}
    (h : ∀ t, tableOf s plan = some t → t.entries.length ≤ a ∨ t.entries.length ≤ b) :
    anchoredSpan s plan a b = none := by
  cases ht : tableOf s plan with
  | none => simp [anchoredSpan, ht]
  | some t =>
    rcases h t ht with h | h
    · simp [anchoredSpan, ht, List.getElem?_eq_none h]
    · simp [anchoredSpan, ht, List.getElem?_eq_none h]

/-- Settles O22: a window is taken when `quietWindow` says so, and an ANCHORED one answers its span. -/
theorem writeQuietReplacesItsWindow : Obligations.WriteQuietReplacesItsWindow := by
  refine ⟨fun s => ⟨rfl, fun _ _ _ => rfl, fun plan a b zones => ⟨fun u x y hu hx hy => ?_,
    fun h => ?_⟩⟩, fun s f number r hready => ?_⟩
  · simp only [quietItem, anchoredSpan_of_entries hu hx hy]
  · simp only [quietItem, anchoredSpan_eq_none h]
  have hexec : exec (.writeQuiet f number r) s
      = .next (serveWriteQuiet f.port number r (s.serving f .writeQuiet)) := request_of_ready hready _
  refine ⟨fun n w hn h => ?_, fun h => ?_⟩
  · rw [hexec, hn, serveWriteQuiet_taken (quietWindow_taken h)]
  · rw [hexec, serveWriteQuiet_refused (h.imp_right quietWindow_refused), refuse_serving]

end BellLaws

end Sys2Proof.Machine
end

section
/-! SUPPORT. The ALARM line settled: what a change of it makes of the Bell Unit, the Site Roll and the
register walker, and the order in which the walker takes what waits (R60, R61, R117, R122, R154, R155). -/

namespace Sys2Proof.Machine

open Sys2Proof

namespace BellLaws

/-! ### The Bell Unit and the Site Roll -/

theorem alarmOn_lines (u : BellUnit) (z : Zone) : u.alarmOn.lines[z] = .silent :=
  Vector.getElem_replicate _

theorem alarmOn_push (u : BellUnit) :
    u.alarmOn.push = if u.push = .released then .released else .held := by
  unfold BellUnit.alarmOn
  cases u.push <;> rfl

section Roll

variable {r : SiteRoll} {day : DayState} {alarm : Bool}

theorem rollAlarm_same (h : r.alarm = alarm) : rollAlarm day alarm r = r := if_pos h

theorem rollAlarm_changed (h : r.alarm = !alarm) :
    rollAlarm day alarm r = rollTable day alarm { r with alarm := alarm } :=
  if_neg (by simp [h])

theorem rollAlarm_starts (halarm : r.alarm = false) (hstate : r.state = .idle) :
    rollAlarm .open true r = ⟨true, .building 0, []⟩ := by
  simp [rollAlarm_changed (alarm := true) halarm, rollTable, hstate, startBuild]

theorem rollAlarm_resumes (halarm : r.alarm = false) (hstate : r.state = .standing) :
    rollAlarm day true r = ⟨true, .active, r.entries⟩ := by
  simp [rollAlarm_changed (alarm := true) halarm, rollTable, hstate]

/-- An assertion that neither starts a roll nor resumes one sets the alarm state alone. -/
theorem rollAlarm_true_keeps (halarm : r.alarm = false) (hstanding : r.state ≠ .standing)
    (hidle : r.state = .idle → day ≠ .open) :
    rollAlarm day true r = ⟨true, r.state, r.entries⟩ := by
  rw [rollAlarm_changed (alarm := true) halarm]
  cases h : r.state with
  | idle => simp [rollTable, hidle h]
  | building cursor => simp [rollTable]
  | active => simp [rollTable]
  | standing => exact absurd h hstanding

theorem rollAlarm_stands (halarm : r.alarm = true) (hstate : r.state = .active) :
    rollAlarm day false r = ⟨false, .standing, r.entries⟩ := by
  simp [rollAlarm_changed (alarm := false) halarm, rollTable, hstate]

theorem rollAlarm_false_keeps (halarm : r.alarm = true) (hstate : r.state ≠ .active) :
    rollAlarm day false r = ⟨false, r.state, r.entries⟩ := by
  rw [rollAlarm_changed (alarm := false) halarm]
  cases h : r.state with
  | active => exact absurd h hstate
  | idle => simp [rollTable]
  | building cursor => simp [rollTable]
  | standing => simp [rollTable]

end Roll

/-! ### The order of what waits (R117) -/

/-- A session sweep's place among those of equal due stamps: by plan, then AM before PM. -/
theorem rank_session (i : SessionItem) :
    WalkItem.rank (.session i) = 2 * i.plan + if i.session = .am then 0 else 1 := by
  obtain ⟨plan, session, due⟩ := i
  cases session <;> rfl

@[simp] theorem rank_route (i : RouteItem) : WalkItem.rank (.route i) = 100 := rfl

@[simp] theorem rank_group (i : GroupItem) : WalkItem.rank (.group i) = 101 := rfl

theorem rank_session_lt_iff (i j : SessionItem) :
    WalkItem.rank (.session i) < WalkItem.rank (.session j)
      ↔ i.plan < j.plan ∨ i.plan = j.plan ∧ i.session = .am ∧ j.session = .pm := by
  have hpm : j.session = .pm ↔ ¬ j.session = .am := by cases j.session <;> decide
  rw [rank_session, rank_session, hpm]
  grind

/-- With plans 1 to 8 a session sweep goes before a route sweep and a group mark. -/
theorem rank_session_lt_hundred {i : SessionItem} (h : i.plan ≤ 8) :
    WalkItem.rank (.session i) < 100 := by
  rw [rank_session]
  split <;> omega

/-- The places among equal due stamps are in the order R117 gives. -/
theorem rank_lt_iff {a b : WalkItem} (ha : ∀ x, a = .session x → x.plan ≤ 8)
    (hb : ∀ x, b = .session x → x.plan ≤ 8) :
    a.rank < b.rank
      ↔ (∃ i j, a = .session i ∧ b = .session j
            ∧ (i.plan < j.plan ∨ i.plan = j.plan ∧ i.session = .am ∧ j.session = .pm))
        ∨ (∃ i, a = .session i ∧ ∀ j, b ≠ .session j)
        ∨ ∃ i j, a = .route i ∧ b = .group j := by
  cases a with
  | session i =>
    have hi := rank_session_lt_hundred (ha i rfl)
    cases b with
    | session j => simp [rank_session_lt_iff]
    | route j => simpa using hi
    | group j => simpa using Nat.lt_succ_of_lt hi
  | route i =>
    cases b with
    | session j =>
      have hj := rank_session_lt_hundred (hb j rfl)
      simpa using hj.le
    | route j => simp
    | group j => simp
  | group i =>
    cases b with
    | session j =>
      have hj := rank_session_lt_hundred (hb j rfl)
      simpa using hj.le.trans (Nat.le_succ 100)
    | route j => simp
    | group j => simp

theorem before_iff_walkOrder {a b : WalkItem} (ha : ∀ x, a = .session x → x.plan ≤ 8)
    (hb : ∀ x, b = .session x → x.plan ≤ 8) : a.before b = true ↔ WalkOrder a b := by
  simp only [WalkItem.before, Bool.or_eq_true, Bool.and_eq_true, decide_eq_true_eq, WalkOrder,
    rank_lt_iff ha hb]

theorem theFirstItemIsTaken : TheFirstItemIsTaken := by
  intro items i hi hplans hfirst
  have hplan : ∀ x ∈ items, ∀ y, x = .session y → y.plan ≤ 8 :=
    fun x hx y hy => hplans y (hy ▸ hx)
  refine firstBy_of_before _ hi fun x hx => (hfirst x hx).imp_right fun ⟨hix, hxi⟩ => ⟨?_, ?_⟩
  · exact (before_iff_walkOrder (hplan i hi) (hplan x hx)).2 hix
  · exact Bool.eq_false_of_not_eq_true
      (mt (before_iff_walkOrder (hplan x hx) (hplan i hi)).1 hxi)

/-! ### The line as a whole -/

theorem exec_alarmAssert {s : State} (hreset : s.lines.resetN = true) :
    exec .alarmAssert s = .next { s with
      lines := { s.lines with alarm := true }
      bells := s.bells.alarmOn
      roll := rollAlarm s.day.state true s.roll
      register := { s.register with walker := { s.register.walker with alarm := true } } } := by
  have hwalker : walkerAlarm true s.register
      = { s.register with walker := { s.register.walker with alarm := true } } :=
    takeItem_of_not (.inr (.inl rfl))
  simp only [exec, execAlarmAssert, event, hreset, if_true]
  rw [← hwalker]
  rfl

theorem exec_alarmRelease {s : State} (hreset : s.lines.resetN = true) :
    exec .alarmRelease s = .next { s with
      lines := { s.lines with alarm := false }
      bells := s.bells.alarmOff
      roll := rollAlarm s.day.state false s.roll
      register := walkerAlarm false s.register } := by
  simp only [exec, execAlarmRelease, event, hreset, if_true]
  rfl

/-- Settles O21: the rows of R60, R61, R122 and R155 one by one, and the order of R117. -/
theorem alarmSilencesBellsAndMovesTheRoll : Obligations.AlarmSilencesBellsAndMovesTheRoll := by
  refine ⟨fun s hreset => ⟨⟨_, exec_alarmAssert hreset, rfl, rfl, rfl, alarmOn_lines s.bells,
      alarmOn_push s.bells, rollAlarm_same, fun halarm hstate hday => ?_, rollAlarm_resumes,
      rollAlarm_true_keeps⟩,
    ⟨_, exec_alarmRelease hreset, rfl, rollAlarm_same, rollAlarm_stands, rollAlarm_false_keeps,
      fun h => ?_, fun i hhand hfirst => ?_⟩⟩, theFirstItemIsTaken⟩
  · simp only [hday]
    exact rollAlarm_starts halarm hstate
  · exact takeItem_of_not (h.imp_right .inr)
  · exact takeItem_takes hhand rfl hfirst

end BellLaws

end Sys2Proof.Machine
end

section
/-! SUPPORT. What the operations of the other blocks leave of the Bell Unit: all of it. Only the requests
of the timetable, RING, WRITE-QUIET, a second event, the lines PUSH and ALARM, the expiries and the
resets change it. One lemma for each operation. -/

namespace Sys2Proof.Machine

open Sys2Proof

namespace BellLaws

theorem foldl_bells {α : Type} {f : State → α → State} (h : ∀ s x, (f s x).bells = s.bells)
    (l : List α) (s : State) : (l.foldl f s).bells = s.bells := by
  induction l generalizing s with
  | nil => rfl
  | cons x l ih => rw [List.foldl_cons, ih, h]

variable (s : State)

/-! ### Answers, faults and the gates of the day state -/

@[simp] theorem answer_bells (p st a b) : (answer p st a b s).bells = s.bells := by
  unfold answer
  dsimp only
  split <;> simp

@[simp] theorem refuse_bells (p st) : (refuse p st s).bells = s.bells := by
  simp [refuse]

@[simp] theorem answerOk_bells (p b) : (answerOk p b s).bells = s.bells := by
  simp [answerOk]

@[simp] theorem enterService_bells (p k t) : (enterService p k t s).bells = s.bells := rfl

@[simp] theorem reportFault_bells (r) : (reportFault r s).bells = s.bells := by
  unfold reportFault
  repeat' split
  all_goals simp

@[simp] theorem resetRecord_bells (k a b) : (resetRecord k a b s).bells = s.bells := rfl

theorem gateOpen_bells {f : State → State} (h : ∀ s, (f s).bells = s.bells) (p : PortId)
    (x : Holdable) (s : State) : (gateOpen p x f s).bells = s.bells := by
  unfold gateOpen
  split <;> simp [h]

theorem gateNotice_bells {f : State → State} (h : ∀ s, (f s).bells = s.bells) (p : PortId)
    (x : Holdable) (s : State) : (gateNotice p x f s).bells = s.bells := by
  unfold gateNotice
  split <;> simp [h]

theorem gateRegister_bells {f : State → State} (h : ∀ s, (f s).bells = s.bells) (p : PortId)
    (x : Holdable) (s : State) : (gateRegister p x f s).bells = s.bells := by
  unfold gateRegister
  split <;> simp [h]

/-! ### The Timetable Engine -/

@[simp] theorem closeRegister_bells (p x m) : (closeRegister p x m s).bells = s.bells := rfl

@[simp] theorem takeReadTimetable_bells (p a b) : (takeReadTimetable p a b s).bells = s.bells := by
  unfold takeReadTimetable
  repeat' split
  all_goals simp

@[simp] theorem serveReadTimetable_bells (p a b) : (serveReadTimetable p a b s).bells = s.bells :=
  gateOpen_bells (fun s => by split <;> simp) _ _ _

/-! ### The Day Register -/

@[simp] theorem setPresence_bells (k x) : (setPresence k x s).bells = s.bells := by
  dsimp only [setPresence]
  repeat' split
  all_goals rfl

@[simp] theorem markGap_bells (k x) : (markGap k x s).bells = s.bells := rfl

@[simp] theorem appendAmendment_bells (a) : (appendAmendment a s).bells = s.bells := by
  unfold appendAmendment
  split
  · split
    · rw [reportFault_bells, onRegister_bells, markGap_bells]
    · rfl
  · rfl

@[simp] theorem enterUnexplained_bells (p r m) : (enterUnexplained p r m s).bells = s.bells := by
  unfold enterUnexplained
  split <;> simp

@[simp] theorem leaveUnexplainedMark_bells (m p r k) :
    (leaveUnexplainedMark m p r k s).bells = s.bells := by
  unfold leaveUnexplainedMark
  repeat' split
  all_goals simp

@[simp] theorem applyChange_bells (m p r k) : (applyChange m p r k s).bells = s.bells := by
  unfold applyChange
  repeat' split
  all_goals simp

@[simp] theorem applyRepeat_bells (m p k) : (applyRepeat m p k s).bells = s.bells := by
  unfold applyRepeat
  split <;> simp

@[simp] theorem propose_bells (p) : (propose p s).1.bells = s.bells := by
  dsimp only [propose]
  repeat' split
  all_goals simp

@[simp] theorem takeSignIn_bells (r) : (takeSignIn r s).1.bells = s.bells := by
  unfold takeSignIn
  split <;> simp

@[simp] theorem proposeEach_bells (f l) : (proposeEach f l s).1.bells = s.bells := by
  induction l generalizing s with
  | nil => rfl
  | cons x l ih => simp [proposeEach, ih]

@[simp] theorem takeSignOut_bells (k t b l) : (takeSignOut k t b l s).1.bells = s.bells := by
  simp [takeSignOut]

@[simp] theorem takeMark_bells (p r) : (takeMark p r s).bells = s.bells := by
  dsimp only [takeMark]
  repeat' split
  all_goals simp

@[simp] theorem serveMark_bells (p r) : (serveMark p r s).bells = s.bells :=
  gateOpen_bells (fun s => takeMark_bells s p r) _ _ _

@[simp] theorem serveGroupMark_bells (p r) : (serveGroupMark p r s).bells = s.bells := by
  unfold serveGroupMark
  split
  · simp
  · exact gateOpen_bells (fun s => by split <;> simp) _ _ _

@[simp] theorem takeReadRegister_bells (p r) : (takeReadRegister p r s).bells = s.bells := by
  unfold takeReadRegister
  repeat' split
  all_goals simp [readRegisterList]

@[simp] theorem serveReadRegister_bells (p r) : (serveReadRegister p r s).bells = s.bells :=
  gateRegister_bells (fun s => takeReadRegister_bells s p r) _ _ _

@[simp] theorem takeReadChanges_bells (p) : (takeReadChanges p s).bells = s.bells := by
  rw [takeReadChanges, answerOk_bells, onRegister_bells]

@[simp] theorem serveReadChanges_bells (p) : (serveReadChanges p s).bells = s.bells :=
  gateRegister_bells (fun s => takeReadChanges_bells s p) _ _ _

@[simp] theorem takeReport_bells : (takeReport s).bells = s.bells := by
  dsimp only [takeReport]
  repeat' split
  all_goals simp

/-! ### The Message Unit -/

@[simp] theorem reportAlert_bells (k a) : (reportAlert k a s).bells = s.bells := by
  unfold reportAlert
  repeat' split
  all_goals simp

@[simp] theorem addCall_bells (k r c n) : (addCall k r c n s).bells = s.bells := by
  unfold addCall
  repeat' split
  all_goals simp

@[simp] theorem addCallFor_bells (k c) : (addCallFor k c s).bells = s.bells := by
  unfold addCallFor
  split <;> simp

@[simp] theorem dropCall_bells (k) : (dropCall k s).bells = s.bells := rfl
@[simp] theorem setOutbound_bells (e) : (setOutbound e s).bells = s.bells := rfl
@[simp] theorem dropOutbound_bells (k) : (dropOutbound k s).bells = s.bells := rfl

@[simp] theorem queueFull_bells (k) : (queueFull k s).bells = s.bells := by
  simp [queueFull]

@[simp] theorem joinOutbound_bells (e) : (joinOutbound e s).bells = s.bells := rfl

@[simp] theorem takeRaise_bells (k r x) : (takeRaise k r x s).bells = s.bells := by
  unfold takeRaise
  repeat' split
  all_goals simp

@[simp] theorem takeLeave_bells (k r x m) : (takeLeave k r x m s).bells = s.bells := by
  dsimp only [takeLeave]
  repeat' split
  all_goals simp

@[simp] theorem takeToMessages_bells (m) : (takeToMessages s m).bells = s.bells := by
  unfold takeToMessages
  split <;> simp

@[simp] theorem drainMessages_bells : (drainMessages s).bells = s.bells :=
  foldl_bells takeToMessages_bells _ _

@[simp] theorem dropStanding_bells (k) : (dropStanding k s).bells = s.bells := rfl
@[simp] theorem storeStanding_bells (e) : (storeStanding e s).bells = s.bells := rfl

@[simp] theorem applyNotice_bells (k n) : (applyNotice k n s).1.bells = s.bells := by
  dsimp only [applyNotice]
  repeat' split
  all_goals simp

@[simp] theorem takeVerified_bells (p k n) : (takeVerified p k n s).bells = s.bells := by
  unfold takeVerified
  split <;> simp

@[simp] theorem takeUnverified_bells (p k r n) : (takeUnverified p k r n s).bells = s.bells := by
  unfold takeUnverified
  dsimp only
  split <;> simp

@[simp] theorem takeNotice_bells (p r) : (takeNotice p r s).bells = s.bells := by
  unfold takeNotice
  repeat' split
  all_goals simp

@[simp] theorem serveNotice_bells (p r) : (serveNotice p r s).bells = s.bells :=
  gateNotice_bells (fun s => takeNotice_bells s p r) _ _ _

@[simp] theorem settleHeldNotice_bells (k) : (settleHeldNotice k s).bells = s.bells := rfl

@[simp] theorem takeConfirmNotice_bells (p k b) : (takeConfirmNotice p k b s).bells = s.bells := by
  unfold takeConfirmNotice
  repeat' split
  all_goals simp

@[simp] theorem serveConfirmNotice_bells (p k b) : (serveConfirmNotice p k b s).bells = s.bells :=
  gateNotice_bells (fun s => takeConfirmNotice_bells s p k b) _ _ _

@[simp] theorem visitStanding_bells (k) : (visitStanding k s).bells = s.bells := by
  unfold visitStanding
  repeat' split
  all_goals simp

@[simp] theorem serveReadStanding_bells (p n) : (serveReadStanding p n s).bells = s.bells := by
  unfold serveReadStanding
  split <;> simp

@[simp] theorem serveCancelStanding_bells (p r) : (serveCancelStanding p r s).bells = s.bells := by
  unfold serveCancelStanding
  split <;> simp

@[simp] theorem exhaust_bells (k c) : (exhaust k c s).bells = s.bells := by
  simp [exhaust]

@[simp] theorem serveQueue_bells (p n) : (serveQueue p n s).bells = s.bells := by
  induction n generalizing s with
  | zero => simp [serveQueue]
  | succ n ih =>
    unfold serveQueue
    repeat' split
    all_goals simp [ih, handOver]

@[simp] theorem serveTakeMessage_bells (p) : (serveTakeMessage p s).bells = s.bells := by
  unfold serveTakeMessage
  split <;> simp

@[simp] theorem leaveOrFollowOn_bells (e a) : (leaveOrFollowOn e a s).bells = s.bells := by
  unfold leaveOrFollowOn
  dsimp only
  split <;> simp

@[simp] theorem becomeCorrection_bells (e) : (becomeCorrection e s).bells = s.bells := by
  simp [becomeCorrection]

@[simp] theorem returnToPosition_bells (e n) : (returnToPosition e n s).bells = s.bells := by
  dsimp only [returnToPosition]
  repeat' split
  all_goals simp

@[simp] theorem resultDelivered_bells (e) : (resultDelivered e s).bells = s.bells := by
  unfold resultDelivered
  repeat' split
  all_goals simp

@[simp] theorem resultFailed_bells (e) : (resultFailed e s).bells = s.bells := by
  unfold resultFailed
  repeat' split
  all_goals simp

@[simp] theorem applyResult_bells (e h b) : (applyResult e h b s).bells = s.bells := by
  unfold applyResult
  repeat' split
  all_goals simp

@[simp] theorem serveMessageResult_bells (p n o) :
    (serveMessageResult p n o s).bells = s.bells := by
  unfold serveMessageResult
  repeat' split
  all_goals simp

@[simp] theorem timeOut_bells (e h) : (timeOut e h s).bells = s.bells := by
  unfold timeOut
  repeat' split
  all_goals simp

@[simp] theorem expireHandover_bells (n) : (expireHandover s n).bells = s.bells := by
  unfold expireHandover
  repeat' split
  all_goals simp

@[simp] theorem expireHandovers_bells : (expireHandovers s).bells = s.bells :=
  foldl_bells expireHandover_bells _ _

@[simp] theorem serveReadCalls_bells (p n) : (serveReadCalls p n s).bells = s.bells := by
  unfold serveReadCalls
  split <;> simp

@[simp] theorem serveClearCall_bells (p n) : (serveClearCall p n s).bells = s.bells := by
  unfold serveClearCall
  repeat' split
  all_goals simp

@[simp] theorem reportUnsent_bells (e) : (reportUnsent s e).bells = s.bells := by
  unfold reportUnsent
  split <;> simp

@[simp] theorem closeMessages_bells : (closeMessages s).bells = s.bells := by
  simp [closeMessages, foldl_bells reportUnsent_bells]

@[simp] theorem clearMessages_bells (k) : (clearMessages k s).bells = s.bells := rfl

/-! ### The Term Accumulators -/

@[simp] theorem takeLateness_bells (a) : (takeLateness a s).bells = s.bells := by
  unfold takeLateness
  split <;> simp

@[simp] theorem takeOpenMinutes_bells (k r m) : (takeOpenMinutes k r m s).bells = s.bells := by
  unfold takeOpenMinutes
  split <;> simp

@[simp] theorem takeFold_bells (k r d a b) : (takeFold k r d a b s).bells = s.bells := by
  dsimp only [takeFold]
  repeat' split
  all_goals simp

@[simp] theorem serveReadTotals_bells (p r) : (serveReadTotals p r s).bells = s.bells := by
  unfold serveReadTotals
  repeat' split
  all_goals simp [answerTotals, answerTotalsList, refuseTotals]

@[simp] theorem serveTermReset_bells (p) : (serveTermReset p s).bells = s.bells := by
  unfold serveTermReset
  split <;> simp

/-! ### The Site Roll -/

@[simp] theorem buildVisit_bells (k) : (buildVisit k s).bells = s.bells := by
  unfold buildVisit
  repeat' split
  all_goals simp

@[simp] theorem takePresence_bells (p) : (takePresence p s).bells = s.bells := by
  unfold takePresence
  repeat' split
  all_goals simp

@[simp] theorem serveReadRoll_bells (p n) : (serveReadRoll p n s).bells = s.bells := by
  unfold serveReadRoll
  split <;> simp

@[simp] theorem serveAccount_bells (p r) : (serveAccount p r s).bells = s.bells := by
  unfold serveAccount
  repeat' split
  all_goals simp

@[simp] theorem serveRollClose_bells (p) : (serveRollClose p s).bells = s.bells := by
  unfold serveRollClose
  split <;> simp

/-! ### The Arrivals Unit -/

@[simp] theorem proposedSignIn_bells (p k r x c l e a t b) :
    (proposedSignIn p k r x c l e a t b s).bells = s.bells := by
  dsimp only [proposedSignIn]
  repeat' split
  all_goals simp

@[simp] theorem takeArrival_bells (p k r b) : (takeArrival p k r b s).bells = s.bells := by
  dsimp only [takeArrival]
  repeat' split
  all_goals simp [plainSignIn]

@[simp] theorem reportRetry_bells (p c b) : (reportRetry p c b s).bells = s.bells := by
  unfold reportRetry
  split <;> simp

@[simp] theorem refuseCard_bells (p c m) : (refuseCard p c m s).bells = s.bells := by
  unfold refuseCard
  split <;> simp

@[simp] theorem takeCard_bells (p c b) : (takeCard p c b s).bells = s.bells := by
  dsimp only [takeCard]
  repeat' split
  all_goals simp

@[simp] theorem takeSignInRequest_bells (p r) : (takeSignInRequest p r s).bells = s.bells := by
  unfold takeSignInRequest
  repeat' split
  all_goals simp

@[simp] theorem serveSignIn_bells (p r) : (serveSignIn p r s).bells = s.bells :=
  gateOpen_bells (fun s => takeSignInRequest_bells s p r) _ _ _

@[simp] theorem takeSignOutRequest_bells (p r x b) :
    (takeSignOutRequest p r x b s).bells = s.bells := by
  unfold takeSignOutRequest
  split <;> simp

@[simp] theorem serveSignOut_bells (p r) : (serveSignOut p r s).bells = s.bells := by
  unfold serveSignOut
  split
  · exact gateOpen_bells (fun s => takeSignOutRequest_bells s _ _ _ _) _ _ _
  · simp

@[simp] theorem serveRouteHold_bells (p r) : (serveRouteHold p r s).bells = s.bells := by
  unfold serveRouteHold
  split
  · exact gateOpen_bells (fun s => by simp [takeRouteHold]) _ _ _
  · simp

@[simp] theorem expireHold_bells (n) : (expireHold s n).bells = s.bells := by
  unfold expireHold
  repeat' split
  all_goals simp

@[simp] theorem expireHolds_bells : (expireHolds s).bells = s.bells :=
  foldl_bells expireHold_bells _ _

/-! ### Reads of the Plan Store and the Pupil Table -/

@[simp] theorem serveReadPlan_bells (p r a) : (serveReadPlan p r a s).bells = s.bells := by
  unfold serveReadPlan
  repeat' split
  all_goals simp [answerPlan, answerCohorts]

@[simp] theorem answerCard_bells (p c) : (answerCard p c s).bells = s.bells := by
  unfold answerCard
  split <;> simp

@[simp] theorem serveReadPupil_bells (p r) : (serveReadPupil p r s).bells = s.bells := by
  unfold serveReadPupil
  repeat' split
  all_goals simp

@[simp] theorem resetForToday_bells (k) : (resetForToday k s).bells = s.bells := rfl

/-! ### Visits of the register walker -/

@[simp] theorem advanceCursor_bells : (advanceCursor s).bells = s.bells := rfl

@[simp] theorem sessionSweep_bells (p x k) : (sessionSweep p x k s).bells = s.bells := by
  unfold sessionSweep
  repeat' split
  all_goals simp

@[simp] theorem routeSweepSession_bells (p k x) : (routeSweepSession p k s x).bells = s.bells := by
  unfold routeSweepSession
  split <;> simp

@[simp] theorem routeSweep_bells (r k) : (routeSweep r k s).bells = s.bells := by
  unfold routeSweep
  repeat' split
  all_goals simp [foldl_bells fun s x => routeSweepSession_bells s _ k x]

@[simp] theorem groupSession_bells (m k x) : (groupSession m k s x).bells = s.bells := by
  rw [groupSession, onRegister_bells, propose_bells]

@[simp] theorem groupWalk_bells (c k) : (groupWalk c k s).bells = s.bells := by
  unfold groupWalk
  repeat' split
  all_goals simp [foldl_bells fun s x => groupSession_bells s _ k x]

@[simp] theorem openVisit_bells (k) : (openVisit k s).bells = s.bells := by
  simp [openVisit]

@[simp] theorem accrueOpen_bells (k r t x) : (accrueOpen k r t s x).bells = s.bells := by
  unfold accrueOpen
  dsimp only
  split <;> simp

@[simp] theorem closeVisit_bells (k) : (closeVisit k s).bells = s.bells := by
  unfold closeVisit
  split
  · rfl
  · simp [finalMark]

/-! ### The Link Interface -/

@[simp] theorem recordCause_bells (p c) : (recordCause p c s).bells = s.bells := rfl
@[simp] theorem setReceive_bells (p r) : (setReceive p r s).bells = s.bells := rfl

@[simp] theorem overlapFrame_bells (p) : (overlapFrame p s).bells = s.bells := by
  unfold overlapFrame
  split <;> simp

@[simp] theorem takeUnknownKind_bells (p k t) : (takeUnknownKind p k t s).bells = s.bells := by
  unfold takeUnknownKind
  split <;> simp

@[simp] theorem completeReply_bells (p) : (completeReply p s).bells = s.bells := by
  unfold completeReply
  repeat' split
  all_goals simp

@[simp] theorem servePortRelease_bells (p n) : (servePortRelease p n s).bells = s.bells := by
  unfold servePortRelease
  split <;> simp

/-! ### Writes of the Plan Store and the Pupil Table -/

@[simp] theorem serveWritePlan_bells (p r) : (serveWritePlan p r s).bells = s.bells := by
  unfold serveWritePlan
  split
  · simp
  · split <;> simp [takeWritePlan]

@[simp] theorem serveWriteCohorts_bells (p l) : (serveWriteCohorts p l s).bells = s.bells := by
  unfold serveWriteCohorts
  repeat' split
  all_goals simp

@[simp] theorem serveWriteSettings_bells (p r) : (serveWriteSettings p r s).bells = s.bells := by
  unfold serveWriteSettings
  repeat' split
  all_goals simp

@[simp] theorem takeWritePupil_bells (p r) : (takeWritePupil p r s).bells = s.bells := by
  unfold takeWritePupil
  dsimp only
  split <;> simp

@[simp] theorem serveWritePupil_bells (p r) : (serveWritePupil p r s).bells = s.bells := by
  unfold serveWritePupil
  split <;> simp

@[simp] theorem serveClearPupil_bells (p k r) : (serveClearPupil p k r s).bells = s.bells := by
  unfold serveClearPupil
  repeat' split
  all_goals simp [clearSlot]

@[simp] theorem serveWriteWindow_bells (p k w) : (serveWriteWindow p k w s).bells = s.bells := by
  unfold serveWriteWindow
  split <;> simp

/-! ### SHIFT, the swap's tables, openings and closings -/

@[simp] theorem takeShift_bells (p r) : (takeShift p r s).bells = s.bells := by
  unfold takeShift
  dsimp only
  split <;> simp

@[simp] theorem serveShift_bells (p r) : (serveShift p r s).bells = s.bells := by
  unfold serveShift
  split
  · exact gateOpen_bells (fun s => by split <;> simp) _ _ _
  · simp

@[simp] theorem swapTable_bells (x) : (swapTable s x).bells = s.bells := by
  unfold swapTable
  split <;> simp

@[simp] theorem raiseClose_bells (m p x) : (raiseClose m p s x).bells = s.bells := by
  unfold raiseClose
  repeat' split
  all_goals simp

@[simp] theorem raiseCloses_bells (m p) : (raiseCloses m s p).bells = s.bells := by
  simp [raiseCloses]

@[simp] theorem abandonRecompute_bells : (abandonRecompute s).bells = s.bells := by
  unfold abandonRecompute
  rw [foldl_bells fun s (h : Held) => refuse_bells s h.port .dayClosed]
  dsimp only
  split <;> simp

@[simp] theorem takeOpening_bells : (takeOpening s).bells = s.bells := rfl

@[simp] theorem endHolds_bells : (endHolds s).bells = s.bells := rfl

@[simp] theorem takeClosing_bells : (takeClosing s).bells = s.bells := by
  simp [takeClosing]

@[simp] theorem autoOpen_bells (m) : (autoOpen m s).bells = s.bells := by
  unfold autoOpen
  split <;> simp

@[simp] theorem autoClose_bells (m) : (autoClose m s).bells = s.bells := by
  unfold autoClose
  repeat' split
  all_goals simp

@[simp] theorem serveDayOpen_bells (p) : (serveDayOpen p s).bells = s.bells := by
  unfold serveDayOpen
  repeat' split
  all_goals simp

@[simp] theorem serveDayClose_bells (p) : (serveDayClose p s).bells = s.bells := by
  unfold serveDayClose
  split <;> simp

@[simp] theorem answerOpened_bells : (answerOpened s).bells = s.bells := by
  unfold answerOpened
  split <;> simp

@[simp] theorem answerClosed_bells (d t) : (answerClosed d t s).bells = s.bells := by
  unfold answerClosed
  split <;> simp

/-! ### What waited (R11, R15, R46) -/

@[simp] theorem serveHeld_bells (h) : (serveHeld h s).bells = s.bells := by
  unfold serveHeld
  split <;> simp

@[simp] theorem takeOne_bells (w) : (takeOne w s).bells = s.bells := by
  unfold takeOne
  split <;> simp

@[simp] theorem takeWaiting_bells (n order todo) :
    (takeWaiting n order todo s).bells = s.bells := by
  induction n generalizing order todo s with
  | zero => rfl
  | succ n ih =>
    unfold takeWaiting
    dsimp only
    split <;> simp [ih]

@[simp] theorem releaseHeld_bells (order) : (releaseHeld order s).bells = s.bells := by
  simp [releaseHeld]

@[simp] theorem takeHeldForSwap_bells (l) : (takeHeldForSwap l s).bells = s.bells := by
  induction l generalizing s with
  | nil => rfl
  | cons h l ih =>
    unfold takeHeldForSwap
    split <;> simp [ih]

end BellLaws

end Sys2Proof.Machine
end

section
/-! SUPPORT. No bell line sounds while the Bell Unit's alarm flag is set (R60): each operation of the Bell
Unit keeps it so, then each operation that asks something of the Bell Unit, and then each command. -/

namespace Sys2Proof.Machine

open Sys2Proof

namespace BellLaws

/-! ### Operations of the Bell Unit -/

theorem quietInAlarm_of_clear {u : BellUnit} (h : u.alarm = false) : u.quietInAlarm := by
  intro halarm
  exact absurd (h.symm.trans halarm) Bool.false_ne_true

/-- The quiet windows play no part. -/
theorem quietInAlarm_withQuiet {u : BellUnit} (h : u.quietInAlarm) (quiet : Vector QuietWindow 8) :
    ({ u with quiet := quiet } : BellUnit).quietInAlarm := h

/-- An operation that leaves the alarm flag is judged by what it does while the flag is set. -/
theorem quietInAlarm_of_alarm {u v : BellUnit} (hu : u.quietInAlarm) (halarm : v.alarm = u.alarm)
    (h : u.alarm = true → (∀ z : Zone, u.lines[z] = .silent) →
      (∀ zones limit, u.push ≠ .following zones limit) →
      (∀ z : Zone, v.lines[z] = .silent) ∧ ∀ zones limit, v.push ≠ .following zones limit) :
    v.quietInAlarm := by
  intro hv
  have halarm' := halarm.symm.trans hv
  obtain ⟨hlines, hpush⟩ := hu halarm'
  exact h halarm' hlines hpush

variable {u : BellUnit}

/-- A push that is not followed. -/
theorem quietInAlarm_of_push (h : u.quietInAlarm) {push : PushState}
    (hpush : ∀ zones limit, push ≠ .following zones limit) :
    ({ u with push := push } : BellUnit).quietInAlarm :=
  quietInAlarm_of_alarm h rfl fun _ hlines _ => ⟨hlines, hpush⟩

theorem quietInAlarm_request (h : u.quietInAlarm) (zones : EightSet) (k : LinePattern) (n : Nat) :
    (u.request zones k n).quietInAlarm := by
  cases halarm : u.alarm with
  | true => rwa [request_of_alarm halarm]
  | false =>
    rw [request_of_clear halarm]
    exact quietInAlarm_of_clear ((settle_alarm u).trans halarm)

theorem quietInAlarm_limitReached (h : u.quietInAlarm) : u.limitReached.quietInAlarm := by
  by_cases hpush : ∃ zones, u.push = .following zones 0
  · obtain ⟨zones, hpush⟩ := hpush
    rw [limitReached_following u hpush]
    exact fun halarm => absurd hpush ((h halarm).2 zones 0)
  · rwa [limitReached_of_ne u fun zones hz => hpush ⟨zones, hz⟩]

theorem quietInAlarm_expire (h : u.quietInAlarm) (z : Zone) :
    ({ u with lines := u.lines.set z (u.lines[z]).expire } : BellUnit).quietInAlarm := by
  refine quietInAlarm_of_alarm h rfl fun _ hlines hpush => ⟨fun w => ?_, hpush⟩
  have hsame : (u.lines[z]).expire = u.lines[z] := by rw [hlines z]; rfl
  simp only [hsame]
  exact (congrArg (·[w]) (Vector.set_getElem_self _)).trans (hlines w)

theorem quietInAlarm_second (h : u.quietInAlarm) : u.second.quietInAlarm := by
  refine quietInAlarm_of_alarm h (settle_alarm u) fun _ hlines hpush => ?_
  have hne : ∀ zones, u.push ≠ .following zones 0 := fun zones => hpush zones 0
  refine ⟨fun z => ?_, fun zones limit => ?_⟩
  · rw [second_lines_of_ne u hne, hlines z]
    rfl
  · rw [second_push_of_ne u hne]
    cases hu : u.push with
    | released => exact PushState.noConfusion
    | held => exact PushState.noConfusion
    | following zones limit => exact absurd hu (hpush zones limit)

theorem quietInAlarm_alarmOn (u : BellUnit) : u.alarmOn.quietInAlarm := by
  refine fun _ => ⟨alarmOn_lines u, fun zones limit => ?_⟩
  rw [alarmOn_push]
  split <;> exact PushState.noConfusion

theorem quietInAlarm_alarmOff (u : BellUnit) : u.alarmOff.quietInAlarm := quietInAlarm_of_clear rfl

theorem quietInAlarm_pushOn (h : u.quietInAlarm) (settings : Settings) :
    (u.pushOn settings).quietInAlarm := by
  by_cases hpush : u.push = .released
  · cases halarm : u.alarm with
    | true =>
      rw [pushOn_alarm hpush halarm]
      exact quietInAlarm_of_push h fun _ _ => PushState.noConfusion
    | false =>
      cases hmode : settings.pushMode with
      | timed => rw [pushOn_timed hpush halarm hmode]; exact quietInAlarm_of_clear halarm
      | follow => rw [pushOn_follow hpush halarm hmode]; exact quietInAlarm_of_clear halarm
  · rwa [pushOn_of_ne_released hpush]

theorem quietInAlarm_pushOff (h : u.quietInAlarm) : u.pushOff.quietInAlarm := by
  cases hpush : u.push with
  | following zones limit =>
    rw [pushOff_following hpush]
    exact fun halarm => absurd hpush ((h halarm).2 zones limit)
  | released | held =>
    rw [pushOff_of_not_following (by simp [hpush])]
    exact quietInAlarm_of_push h fun _ _ => PushState.noConfusion

theorem quietInAlarm_reset (push alarm : Bool) : (BellUnit.reset push alarm).quietInAlarm := by
  refine fun _ => ⟨fun z => Vector.getElem_replicate _, fun zones limit => ?_⟩
  cases push <;> exact PushState.noConfusion

/-! ### Operations on the state -/

/-- An operation that keeps the bells silent while the alarm flag is set. -/
def KeepsSilence (f : State → State) : Prop :=
  ∀ s : State, s.bells.quietInAlarm → (f s).bells.quietInAlarm

theorem silent_of_bells {s t : State} (h : t.bells = s.bells) (hs : s.bells.quietInAlarm) :
    t.bells.quietInAlarm := h ▸ hs

theorem keepsSilence_of_bells {f : State → State} (h : ∀ s, (f s).bells = s.bells) :
    KeepsSilence f := fun s => silent_of_bells (h s)

theorem silent_foldl {α : Type} {f : State → α → State} (h : ∀ x, KeepsSilence fun s => f s x)
    (l : List α) {s : State} (hs : s.bells.quietInAlarm) :
    (l.foldl f s).bells.quietInAlarm := by
  induction l generalizing s with
  | nil => exact hs
  | cons x l ih => exact ih (h x s hs)

theorem keepsSilence_timetableBell (b : BellPattern) (z : EightSet) :
    KeepsSilence (timetableBell b z) := by
  intro s hs
  unfold timetableBell
  split
  · dsimp only
    split
    · exact hs
    · exact quietInAlarm_request hs _ _ _
  · exact hs

theorem keepsSilence_beginEntries (w : Bool) (m p : Nat) :
    KeepsSilence fun s => beginEntries w m s p := by
  intro s hs
  dsimp only [beginEntries]
  split
  · exact hs
  · exact silent_foldl (fun (e : EntryStart) => keepsSilence_timetableBell e.pattern e.zones) _ hs

theorem keepsSilence_raiseEnd (m p : Nat) : KeepsSilence fun s => raiseEnd m s p := by
  intro s hs
  dsimp only [raiseEnd]
  split
  · exact hs
  · split
    · exact keepsSilence_timetableBell _ _ _ hs
    · exact hs

theorem keepsSilence_raiseDue (w : Bool) (m : Nat) (plans : List Nat) :
    KeepsSilence (raiseDue w m plans) := by
  intro s hs
  refine silent_foldl (fun p => keepsSilence_raiseEnd m p) _ ?_
  refine silent_of_bells (foldl_bells (fun s p => raiseCloses_bells s m p) _ _) ?_
  exact silent_foldl (fun p => keepsSilence_beginEntries w m p) _ hs

theorem keepsSilence_timetableMinute (m : Nat) (d : DayNumber) :
    KeepsSilence (timetableMinute m d) := by
  intro s hs
  unfold timetableMinute
  split
  · exact keepsSilence_raiseDue _ _ _ (setCurrent _ s) hs
  all_goals exact hs

theorem keepsSilence_minuteEvent (t : Stamp) : KeepsSilence (minuteEvent t) := by
  intro s hs
  exact keepsSilence_timetableMinute _ _ _ (silent_of_bells (by simp) hs)

theorem keepsSilence_minuteIfWhole (t : Stamp) : KeepsSilence (minuteIfWhole t) := by
  intro s hs
  unfold minuteIfWhole
  split
  · exact keepsSilence_minuteEvent t s hs
  · exact hs

theorem keepsSilence_secondTaken : KeepsSilence secondTaken := fun _ hs => quietInAlarm_second hs

theorem settleExpiries_bells (s : State) : (settleExpiries s).bells = s.bells := by
  simp [settleExpiries]

theorem keepsSilence_tick (b : Bool) : KeepsSilence (tick b) := by
  intro s hs
  have hsettled : (State.onClock (settleExpiries s) Clock.advance).bells.quietInAlarm :=
    silent_of_bells (settleExpiries_bells s) hs
  cases b with
  | true => exact keepsSilence_minuteIfWhole _ _ (keepsSilence_secondTaken _ hsettled)
  | false => exact keepsSilence_secondTaken _ (keepsSilence_minuteIfWhole _ _ hsettled)

theorem keepsSilence_serveSetTime (p : PortId) (time : Nat) (day : DayNumber) (base : Nat) :
    KeepsSilence (serveSetTime p time day base) := by
  intro s hs
  unfold serveSetTime
  split
  · exact silent_of_bells (refuse_bells _ _ _) hs
  · dsimp only
    split
    · refine silent_of_bells (answerOk_bells _ _ _) (keepsSilence_secondTaken _ ?_)
      refine silent_foldl (fun m => keepsSilence_minuteEvent m) _ ?_
      exact silent_of_bells (settleExpiries_bells s) hs
    · exact silent_of_bells (refuse_bells _ _ _) hs

theorem keepsSilence_swapTables (r : Recompute) : KeepsSilence (swapTables r) := by
  intro s hs
  have hswapped := silent_of_bells (foldl_bells swapTable_bells r.passes s) hs
  unfold swapTables
  dsimp only
  split
  · exact keepsSilence_raiseDue _ _ _ _ (silent_of_bells (answer_bells _ _ _ _ _) hswapped)
  · exact silent_of_bells (answer_bells _ _ _ _ _) hswapped

theorem keepsSilence_takeSwap (r : Recompute) : KeepsSilence (takeSwap r) := by
  intro s hs
  exact silent_of_bells (takeHeldForSwap_bells _ _) (keepsSilence_swapTables r _ hs)

theorem keepsSilence_openTimetable : KeepsSilence openTimetable := by
  intro s hs
  unfold openTimetable
  split
  · exact keepsSilence_raiseDue _ _ _ (setCurrent _ s) hs
  · exact hs

theorem keepsSilence_completeOpen (order : List Nat) : KeepsSilence (completeOpen order) := by
  intro s hs
  refine silent_of_bells ((releaseHeld_bells _ _).trans (answerOpened_bells _)) ?_
  exact keepsSilence_openTimetable _ hs

/-- The close walk's completion clears the quiet windows and no line (R15, R55). -/
theorem keepsSilence_completeClose (order : List Nat) : KeepsSilence (completeClose order) := by
  intro s hs
  refine silent_of_bells ((releaseHeld_bells _ _).trans (answerClosed_bells _ _ _)) ?_
  exact quietInAlarm_withQuiet hs _

theorem keepsSilence_takeAlarm (alarm : Bool) : KeepsSilence (takeAlarm alarm) := by
  intro s _
  cases alarm with
  | true => exact quietInAlarm_alarmOn s.bells
  | false => exact quietInAlarm_alarmOff s.bells

theorem keepsSilence_serveWriteQuiet (p : PortId) (n : Nat) (r : QuietReq) :
    KeepsSilence (serveWriteQuiet p n r) := by
  intro s hs
  unfold serveWriteQuiet
  split
  · split
    · exact silent_of_bells (answerOk_bells _ _ _) (quietInAlarm_withQuiet hs _)
    · exact silent_of_bells (refuse_bells _ _ _) hs
  · exact silent_of_bells (refuse_bells _ _ _) hs

theorem keepsSilence_serveRing (p : PortId) (zones : EightSet) (pattern : Option BellPattern) :
    KeepsSilence (serveRing p zones pattern) := by
  intro s hs
  unfold serveRing
  split
  · split
    · exact silent_of_bells (refuse_bells _ _ _) hs
    · exact silent_of_bells (answerOk_bells _ _ _) (quietInAlarm_request hs _ _ _)
  · exact silent_of_bells (refuse_bells _ _ _) hs

theorem silent_restartWith (clock : Clock) (roles : Vector Role 6) (s : State) :
    (restartWith clock roles s).bells.quietInAlarm := quietInAlarm_reset _ _

theorem keepsSilence_takeDown {f : State → State} (hf : ∀ s, (f s).bells = s.bells) (t : PortId)
    (x : PortState) (c : Option Nat) : KeepsSilence (takeDown t x c f) := by
  intro s hs
  unfold takeDown
  dsimp only
  split
  · exact silent_restartWith _ _ _
  · exact silent_of_bells (hf _) hs

theorem keepsSilence_servePortPark (p : PortId) (n : Nat) : KeepsSilence (servePortPark p n) := by
  intro s hs
  unfold servePortPark
  split
  · exact silent_of_bells (refuse_bells _ _ _) hs
  · split
    · exact silent_of_bells (refuse_bells _ _ _) hs
    · dsimp only
      split
      · exact keepsSilence_takeDown (fun s => answerOk_bells s _ _) _ _ _ s hs
      all_goals exact silent_of_bells (by simp) hs

theorem keepsSilence_servePortCycle (p : PortId) (n : Nat) : KeepsSilence (servePortCycle p n) := by
  intro s hs
  unfold servePortCycle
  split
  · exact silent_of_bells (refuse_bells _ _ _) hs
  · split
    · exact silent_of_bells (refuse_bells _ _ _) hs
    · split
      · exact silent_of_bells (refuse_bells _ _ _) hs
      · exact keepsSilence_takeDown (fun s => answerOk_bells s _ _) _ _ _ s hs
      · exact silent_of_bells (by simp) hs

/-! ### Requests, events and visits -/

/-- A command that goes on to a state in which the bells are silent under the alarm. -/
def NextSilent (o : Host.Outcome State Fault Refusal) : Prop :=
  ∀ t, o = .next t → t.bells.quietInAlarm

theorem nextSilent_next {s : State} (hs : s.bells.quietInAlarm) : NextSilent (.next s) := by
  rintro t ⟨⟩
  exact hs

theorem nextSilent_request {s : State} (hs : s.bells.quietInAlarm) {f : Frame} {k : Kind}
    {owner : State → State} (h : KeepsSilence owner) : NextSilent (request f k owner s) := by
  refine nextSilent_next ?_
  unfold takeFrame
  split
  · split
    · exact silent_of_bells (by simp) hs
    · dsimp only
      repeat' split
      · exact silent_of_bells (by simp) hs
      · exact silent_of_bells (by simp) hs
      · exact h _ (silent_of_bells (enterService_bells _ _ _ _) hs)
  · exact hs

theorem nextSilent_event {s : State} (hs : s.bells.quietInAlarm) {effect : State → State}
    (h : (effect s).bells.quietInAlarm) : NextSilent (event effect s) := by
  refine nextSilent_next ?_
  split
  · exact h
  · exact hs

theorem nextSilent_event_of_bells {s : State} (hs : s.bells.quietInAlarm) {effect : State → State}
    (h : (effect s).bells = s.bells) : NextSilent (event effect s) :=
  nextSilent_event hs (silent_of_bells h hs)

theorem nextSilent_visit {s : State} (hs : s.bells.quietInAlarm)
    {effect : Walk → Nat → State → Option State}
    (h : ∀ w k s t, effect w k s = some t → t.bells = s.bells) :
    NextSilent (event (visit effect) s) := by
  refine nextSilent_event_of_bells hs ?_
  unfold visit
  repeat' split
  · rfl
  · next t ht =>
    rw [advanceCursor_bells]
    exact h _ _ _ _ ht
  all_goals rfl

/-! ### Commands -/

theorem nextSilent_exec (i : Instr) {s : State} (hs : s.bells.quietInAlarm) :
    NextSilent (exec i s) := by
  cases i
  all_goals dsimp only [exec]
  case powerOnReset => exact nextSilent_next (silent_restartWith _ _ _)
  case resetNLow => exact nextSilent_next hs
  case secondEvent b => exact nextSilent_event hs (keepsSilence_tick b s hs)
  case bellCountExpiry z => exact nextSilent_event hs (quietInAlarm_expire hs z)
  case pushLimitExpiry => exact nextSilent_event hs (quietInAlarm_limitReached hs)
  case pushAssert =>
    refine nextSilent_event ?_ ?_
    · exact hs
    · exact quietInAlarm_pushOn hs _
  case pushRelease =>
    refine nextSilent_event ?_ ?_
    · exact hs
    · exact quietInAlarm_pushOff hs
  case alarmAssert | alarmRelease =>
    refine nextSilent_event ?_ ?_
    · exact hs
    · exact keepsSilence_takeAlarm _ _ hs
  case setTime => exact nextSilent_request hs (keepsSilence_serveSetTime _ _ _ _)
  case writeQuiet => exact nextSilent_request hs (keepsSilence_serveWriteQuiet _ _ _)
  case ring => exact nextSilent_request hs (keepsSilence_serveRing _ _ _)
  case portPark => exact nextSilent_request hs (keepsSilence_servePortPark _ _)
  case portCycle => exact nextSilent_request hs (keepsSilence_servePortCycle _ _)
  case restartEffect =>
    refine nextSilent_event hs ?_
    split
    · exact silent_restartWith _ _ _
    · exact hs
  case openWalkComplete order =>
    refine nextSilent_event hs ?_
    split
    · exact keepsSilence_completeOpen order s hs
    · exact hs
  case closeWalkComplete order =>
    refine nextSilent_event hs ?_
    split
    · exact keepsSilence_completeClose order s hs
    · exact hs
  case swap =>
    refine nextSilent_event hs ?_
    repeat' split
    · exact keepsSilence_takeSwap _ s hs
    all_goals exact hs
  case openWalkVisit | closeWalkVisit | sessionSweepVisit | routeSweepVisit | groupWalkVisit =>
    refine nextSilent_visit hs fun w k s t h => ?_
    split at h
    · cases h
      simp
    all_goals cases h
  case recomputePassComplete | routeHoldExpiry | alertStateReport | handoverTimeout
      | replyComplete =>
    refine nextSilent_event_of_bells hs ?_
    simp
  case walkComplete | raiseAlert | leaveUnexplained | callListAdd | latenessAccrual
      | openMinutesAccrual | fold | rollBuildVisit | rollBuildComplete | presenceChange
      | frameHeaderFault | frameCheckFault | receiveGapTimeout | frameOverlap | unknownKindFrame
      | portCycleEnd | syncOctet =>
    refine nextSilent_event_of_bells hs ?_
    repeat' split
    all_goals simp
  case setReplyLimit | linkStatus | readFaults | clearFaults =>
    refine nextSilent_request hs (keepsSilence_of_bells fun s => ?_)
    simp [serveSetReplyLimit, serveLinkStatus, serveReadFaults, serveClearFaults]
  -- What is left are requests whose owners ask nothing of the Bell Unit.
  all_goals exact nextSilent_request hs (keepsSilence_of_bells fun s => by simp)

/-- Settles O12, by cases on the command: under the alarm a request is discarded, no push is followed, and
what is silent stays so. -/
theorem everyStepKeepsBellsSilentInAlarm : Obligations.EveryStepKeepsBellsSilentInAlarm := by
  intro s t hs hstep
  unfold step at hstep
  split at hstep
  · cases hstep
    exact hs
  · next i rest _ => exact nextSilent_exec i (s := { s with pending := rest }) hs t hstep

end BellLaws

end Sys2Proof.Machine
end

section
/-! SUPPORT. What the operations of the other blocks leave of the slot tables: the Pupil Table's records, the
register's records and amendments, the route holds and the accumulator records. One lemma for each
operation. -/

namespace Sys2Proof.Machine

open Sys2Proof

/-- The parts of the state whose canonical form is an invariant (R62, R78, R92, R109, R145): the tables kept
by slot, and the amendment list, whose entries name slots. -/
def State.slotData (s : State) : SlotTable (Option Pupil) × SlotTable RegisterRecord × List Amendment
    × SlotTable (Option RouteHold) × SlotTable Accumulator :=
  (s.pupils.pupils, s.register.records, s.register.amendments, s.arrivals.holds, s.totals.records)

namespace RegisterLaws

theorem slotData_foldl {α : Type} {f : State → α → State} (h : ∀ s x, (f s x).slotData = s.slotData)
    (l : List α) (s : State) : (l.foldl f s).slotData = s.slotData := by
  induction l generalizing s with
  | nil => rfl
  | cons x l ih => rw [List.foldl_cons, ih, h]

/-- A walker that takes an item leaves the records and the amendments (R117). -/
theorem takeItem_records (r : DayRegister) : (takeItem r).records = r.records := by
  unfold takeItem
  repeat' split
  all_goals rfl

theorem takeItem_amendments (r : DayRegister) : (takeItem r).amendments = r.amendments := by
  unfold takeItem
  repeat' split
  all_goals rfl

theorem slotData_onRegister {s : State} {f : DayRegister → DayRegister}
    (hrecords : (f s.register).records = s.register.records)
    (hamendments : (f s.register).amendments = s.register.amendments) :
    (s.onRegister f).slotData = s.slotData := by
  simp [State.slotData, hrecords, hamendments]

/-! ### Updates of one part -/

section Frames

variable (s : State)

/-! ### Updates of one part -/

@[simp] theorem slotData_onClock (f : Clock → Clock) : (s.onClock f).slotData = s.slotData := rfl
@[simp] theorem slotData_onStore (f : PlanStore → PlanStore) :
    (s.onStore f).slotData = s.slotData := rfl
@[simp] theorem slotData_setPort (p : PortId) (r : Port) :
    (s.setPort p r).slotData = s.slotData := rfl
@[simp] theorem slotData_withWires (w : Wires) :
    ({ s with wires := w } : State).slotData = s.slotData := rfl
@[simp] theorem slotData_withLink (w : LinkInterface) :
    ({ s with link := w } : State).slotData = s.slotData := rfl
@[simp] theorem slotData_withLines (w : Lines) :
    ({ s with lines := w } : State).slotData = s.slotData := rfl
@[simp] theorem slotData_withPending (w : List Instr) :
    ({ s with pending := w } : State).slotData = s.slotData := rfl
@[simp] theorem slotData_onBells (f : BellUnit → BellUnit) :
    (s.onBells f).slotData = s.slotData := rfl
@[simp] theorem slotData_onMessages (f : MessageUnit → MessageUnit) :
    (s.onMessages f).slotData = s.slotData := rfl
@[simp] theorem slotData_onRoll (f : SiteRoll → SiteRoll) :
    (s.onRoll f).slotData = s.slotData := rfl
@[simp] theorem slotData_tellMessages (m : ToMessages) :
    (tellMessages m s).slotData = s.slotData := rfl
@[simp] theorem slotData_tellAccumulators (m : ToAccumulators) :
    (tellAccumulators m s).slotData = s.slotData := rfl
@[simp] theorem slotData_popMessage (l : List ToMessages) :
    (popMessage l s).slotData = s.slotData := rfl
@[simp] theorem slotData_popAccrual (l : List ToAccumulators) :
    (popAccrual l s).slotData = s.slotData := rfl
@[simp] theorem slotData_setCurrent (m : Option Nat) : (setCurrent m s).slotData = s.slotData := rfl
@[simp] theorem slotData_holdForSwap (p : PortId) (h : Holdable) :
    (holdForSwap p h s).slotData = s.slotData := rfl
@[simp] theorem slotData_holdRequest (p : PortId) (h : Holdable) :
    (holdRequest p h s).slotData = s.slotData := rfl
@[simp] theorem slotData_setWait (k : Nat) (b : Bool) : (setWait k b s).slotData = s.slotData := rfl
@[simp] theorem slotData_askConcern (k : Nat) (r : PupilRef) :
    (askConcern k r s).slotData = s.slotData := rfl
@[simp] theorem slotData_askLateness (a : LatenessAsk) :
    (askLateness a s).slotData = s.slotData := rfl
@[simp] theorem slotData_recordCause (p : PortId) (c : LinkCause) :
    (recordCause p c s).slotData = s.slotData := rfl
@[simp] theorem slotData_onDay (f : DayRecord → DayRecord) :
    (s.onDay f).slotData = s.slotData := rfl
@[simp] theorem slotData_setTable (u : PlanTable) : (setTable u s).slotData = s.slotData := rfl
@[simp] theorem slotData_setRecompute (r : Option Recompute) :
    (setRecompute r s).slotData = s.slotData := rfl
@[simp] theorem slotData_restartPasses (l : List Nat) :
    (restartPasses l s).slotData = s.slotData := rfl
@[simp] theorem slotData_secondTaken : (secondTaken s).slotData = s.slotData := rfl

/-! ### The register walker -/

@[simp] theorem slotData_joinGroup (c t) : (s.onRegister (joinGroup c t)).slotData = s.slotData :=
  slotData_onRegister (takeItem_records _) (takeItem_amendments _)

@[simp] theorem slotData_joinRoute (k t) : (s.onRegister (joinRoute k t)).slotData = s.slotData :=
  slotData_onRegister (takeItem_records _) (takeItem_amendments _)

@[simp] theorem slotData_walkerAlarm (b) : (s.onRegister (walkerAlarm b)).slotData = s.slotData :=
  slotData_onRegister (takeItem_records _) (takeItem_amendments _)

@[simp] theorem slotData_dropWalk : (s.onRegister dropWalk).slotData = s.slotData :=
  slotData_onRegister (takeItem_records _) (takeItem_amendments _)

@[simp] theorem slotData_closeRegister (p x m) : (closeRegister p x m s).slotData = s.slotData :=
  slotData_onRegister (takeItem_records _) (takeItem_amendments _)

/-! ### Answers, faults and the gates of the day state -/

@[simp] theorem slotData_answer (p st a b) : (answer p st a b s).slotData = s.slotData := by
  unfold answer
  dsimp only
  split <;> simp

@[simp] theorem slotData_refuse (p st) : (refuse p st s).slotData = s.slotData := by
  simp [refuse]

@[simp] theorem slotData_answerOk (p b) : (answerOk p b s).slotData = s.slotData := by
  simp [answerOk]

@[simp] theorem slotData_enterService (p k t) : (enterService p k t s).slotData = s.slotData := rfl

@[simp] theorem slotData_reportFault (r) : (reportFault r s).slotData = s.slotData := by
  unfold reportFault
  repeat' split
  all_goals simp

theorem slotData_gateOpen {f : State → State} (h : ∀ s, (f s).slotData = s.slotData) (p : PortId)
    (x : Holdable) (s : State) : (gateOpen p x f s).slotData = s.slotData := by
  unfold gateOpen
  split <;> simp [h]

theorem slotData_gateNotice {f : State → State} (h : ∀ s, (f s).slotData = s.slotData) (p : PortId)
    (x : Holdable) (s : State) : (gateNotice p x f s).slotData = s.slotData := by
  unfold gateNotice
  split <;> simp [h]

theorem slotData_gateRegister {f : State → State} (h : ∀ s, (f s).slotData = s.slotData) (p : PortId)
    (x : Holdable) (s : State) : (gateRegister p x f s).slotData = s.slotData := by
  unfold gateRegister
  split <;> simp [h]

/-! ### The Timetable Engine -/

@[simp] theorem slotData_takeReadTimetable (p a b) :
    (takeReadTimetable p a b s).slotData = s.slotData := by
  unfold takeReadTimetable
  repeat' split
  all_goals simp

@[simp] theorem slotData_serveReadTimetable (p a b) :
    (serveReadTimetable p a b s).slotData = s.slotData :=
  slotData_gateOpen (fun s => by split <;> simp) _ _ _

@[simp] theorem slotData_timetableBell (b z) : (timetableBell b z s).slotData = s.slotData := by
  dsimp only [timetableBell]
  repeat' split
  all_goals simp

@[simp] theorem slotData_beginEntries (w m p) : (beginEntries w m s p).slotData = s.slotData := by
  unfold beginEntries
  split
  · rfl
  · exact slotData_foldl (fun s (e : EntryStart) => slotData_timetableBell s e.pattern e.zones) _ _

@[simp] theorem slotData_raiseClose (m p x) : (raiseClose m p s x).slotData = s.slotData := by
  unfold raiseClose
  repeat' split
  all_goals simp

@[simp] theorem slotData_raiseCloses (m p) : (raiseCloses m s p).slotData = s.slotData := by
  simp [raiseCloses]

@[simp] theorem slotData_raiseEnd (m p) : (raiseEnd m s p).slotData = s.slotData := by
  unfold raiseEnd
  repeat' split
  all_goals simp [takeEnd]

@[simp] theorem slotData_raiseDue (w m l) : (raiseDue w m l s).slotData = s.slotData := by
  unfold raiseDue
  rw [slotData_restartPasses, slotData_foldl fun s p => slotData_raiseEnd s m p,
    slotData_foldl fun s p => slotData_raiseCloses s m p,
    slotData_foldl fun s p => slotData_beginEntries s w m p]

@[simp] theorem slotData_timetableMinute (m d) : (timetableMinute m d s).slotData = s.slotData := by
  unfold timetableMinute
  split <;> simp

/-! ### The Bell Unit -/

@[simp] theorem slotData_serveWriteQuiet (p n r) :
    (serveWriteQuiet p n r s).slotData = s.slotData := by
  unfold serveWriteQuiet
  repeat' split
  all_goals simp

@[simp] theorem slotData_serveRing (p z b) : (serveRing p z b s).slotData = s.slotData := by
  unfold serveRing
  repeat' split
  all_goals simp

/-! ### The Day Register -/

@[simp] theorem slotData_enterUnexplained (p r m) :
    (enterUnexplained p r m s).slotData = s.slotData := by
  unfold enterUnexplained
  split <;> simp

@[simp] theorem slotData_leaveUnexplainedMark (m p r k) :
    (leaveUnexplainedMark m p r k s).slotData = s.slotData := by
  unfold leaveUnexplainedMark
  repeat' split
  all_goals simp

@[simp] theorem slotData_serveGroupMark (p r) : (serveGroupMark p r s).slotData = s.slotData := by
  unfold serveGroupMark
  split
  · simp
  · exact slotData_gateOpen (fun s => by split <;> simp) _ _ _

@[simp] theorem slotData_takeReadRegister (p r) :
    (takeReadRegister p r s).slotData = s.slotData := by
  unfold takeReadRegister
  repeat' split
  all_goals simp [readRegisterList]

@[simp] theorem slotData_serveReadRegister (p r) :
    (serveReadRegister p r s).slotData = s.slotData :=
  slotData_gateRegister (fun s => slotData_takeReadRegister s p r) _ _ _

/-! ### The Message Unit -/

@[simp] theorem slotData_reportAlert (k a) : (reportAlert k a s).slotData = s.slotData := by
  unfold reportAlert
  repeat' split
  all_goals simp

@[simp] theorem slotData_addCall (k r c n) : (addCall k r c n s).slotData = s.slotData := by
  unfold addCall
  repeat' split
  all_goals simp

@[simp] theorem slotData_addCallFor (k c) : (addCallFor k c s).slotData = s.slotData := by
  unfold addCallFor
  split <;> simp

@[simp] theorem slotData_dropCall (k) : (dropCall k s).slotData = s.slotData := rfl
@[simp] theorem slotData_setOutbound (e) : (setOutbound e s).slotData = s.slotData := rfl
@[simp] theorem slotData_dropOutbound (k) : (dropOutbound k s).slotData = s.slotData := rfl

@[simp] theorem slotData_queueFull (k) : (queueFull k s).slotData = s.slotData := by
  simp [queueFull]

@[simp] theorem slotData_joinOutbound (e) : (joinOutbound e s).slotData = s.slotData := rfl

@[simp] theorem slotData_takeRaise (k r x) : (takeRaise k r x s).slotData = s.slotData := by
  unfold takeRaise
  repeat' split
  all_goals simp

@[simp] theorem slotData_takeLeave (k r x m) : (takeLeave k r x m s).slotData = s.slotData := by
  dsimp only [takeLeave]
  repeat' split
  all_goals simp

@[simp] theorem slotData_takeToMessages (m) : (takeToMessages s m).slotData = s.slotData := by
  unfold takeToMessages
  split <;> simp

@[simp] theorem slotData_drainMessages : (drainMessages s).slotData = s.slotData :=
  slotData_foldl slotData_takeToMessages _ _

@[simp] theorem slotData_dropStanding (k) : (dropStanding k s).slotData = s.slotData := rfl
@[simp] theorem slotData_storeStanding (e) : (storeStanding e s).slotData = s.slotData := rfl

@[simp] theorem slotData_takeUnverified (p k r n) :
    (takeUnverified p k r n s).slotData = s.slotData := by
  unfold takeUnverified
  dsimp only
  split <;> simp

@[simp] theorem slotData_settleHeldNotice (k) : (settleHeldNotice k s).slotData = s.slotData := rfl

@[simp] theorem slotData_serveReadStanding (p n) :
    (serveReadStanding p n s).slotData = s.slotData := by
  unfold serveReadStanding
  split <;> simp

@[simp] theorem slotData_serveCancelStanding (p r) :
    (serveCancelStanding p r s).slotData = s.slotData := by
  unfold serveCancelStanding
  split <;> simp

@[simp] theorem slotData_exhaust (k c) : (exhaust k c s).slotData = s.slotData := by
  simp [exhaust]

@[simp] theorem slotData_serveQueue (p n) : (serveQueue p n s).slotData = s.slotData := by
  induction n generalizing s with
  | zero => simp [serveQueue]
  | succ n ih =>
    unfold serveQueue
    repeat' split
    all_goals simp [ih, handOver]

@[simp] theorem slotData_serveTakeMessage (p) : (serveTakeMessage p s).slotData = s.slotData := by
  unfold serveTakeMessage
  split <;> simp

@[simp] theorem slotData_leaveOrFollowOn (e a) : (leaveOrFollowOn e a s).slotData = s.slotData := by
  unfold leaveOrFollowOn
  dsimp only
  split <;> simp

@[simp] theorem slotData_becomeCorrection (e) : (becomeCorrection e s).slotData = s.slotData := by
  simp [becomeCorrection]

@[simp] theorem slotData_returnToPosition (e n) :
    (returnToPosition e n s).slotData = s.slotData := by
  dsimp only [returnToPosition]
  repeat' split
  all_goals simp

@[simp] theorem slotData_resultDelivered (e) : (resultDelivered e s).slotData = s.slotData := by
  unfold resultDelivered
  repeat' split
  all_goals simp

@[simp] theorem slotData_resultFailed (e) : (resultFailed e s).slotData = s.slotData := by
  unfold resultFailed
  repeat' split
  all_goals simp

@[simp] theorem slotData_applyResult (e h b) : (applyResult e h b s).slotData = s.slotData := by
  unfold applyResult
  repeat' split
  all_goals simp

@[simp] theorem slotData_serveMessageResult (p n o) :
    (serveMessageResult p n o s).slotData = s.slotData := by
  unfold serveMessageResult
  repeat' split
  all_goals simp

@[simp] theorem slotData_timeOut (e h) : (timeOut e h s).slotData = s.slotData := by
  unfold timeOut
  repeat' split
  all_goals simp

@[simp] theorem slotData_expireHandover (n) : (expireHandover s n).slotData = s.slotData := by
  unfold expireHandover
  repeat' split
  all_goals simp

@[simp] theorem slotData_expireHandovers : (expireHandovers s).slotData = s.slotData :=
  slotData_foldl slotData_expireHandover _ _

@[simp] theorem slotData_serveReadCalls (p n) : (serveReadCalls p n s).slotData = s.slotData := by
  unfold serveReadCalls
  split <;> simp

@[simp] theorem slotData_serveClearCall (p n) : (serveClearCall p n s).slotData = s.slotData := by
  unfold serveClearCall
  repeat' split
  all_goals simp

@[simp] theorem slotData_reportUnsent (e) : (reportUnsent s e).slotData = s.slotData := by
  unfold reportUnsent
  split <;> simp

@[simp] theorem slotData_closeMessages : (closeMessages s).slotData = s.slotData := by
  simp [closeMessages, slotData_foldl slotData_reportUnsent]

@[simp] theorem slotData_clearMessages (k) : (clearMessages k s).slotData = s.slotData := rfl

/-! ### The Term Accumulators -/

@[simp] theorem slotData_serveReadTotals (p r) : (serveReadTotals p r s).slotData = s.slotData := by
  unfold serveReadTotals
  repeat' split
  all_goals simp [answerTotals, answerTotalsList, refuseTotals]

/-! ### The Site Roll -/

@[simp] theorem slotData_buildVisit (k) : (buildVisit k s).slotData = s.slotData := by
  unfold buildVisit
  repeat' split
  all_goals simp

@[simp] theorem slotData_takePresence (p) : (takePresence p s).slotData = s.slotData := by
  unfold takePresence
  repeat' split
  all_goals simp

@[simp] theorem slotData_serveReadRoll (p n) : (serveReadRoll p n s).slotData = s.slotData := by
  unfold serveReadRoll
  split <;> simp

@[simp] theorem slotData_serveAccount (p r) : (serveAccount p r s).slotData = s.slotData := by
  unfold serveAccount
  repeat' split
  all_goals simp

@[simp] theorem slotData_serveRollClose (p) : (serveRollClose p s).slotData = s.slotData := by
  unfold serveRollClose
  split <;> simp

/-! ### The Arrivals Unit -/

@[simp] theorem slotData_reportRetry (p c b) : (reportRetry p c b s).slotData = s.slotData := by
  unfold reportRetry
  split <;> simp

@[simp] theorem slotData_refuseCard (p c m) : (refuseCard p c m s).slotData = s.slotData := by
  unfold refuseCard
  split <;> simp

/-! ### Reads of the Plan Store and the Pupil Table -/

@[simp] theorem slotData_serveReadPlan (p r a) : (serveReadPlan p r a s).slotData = s.slotData := by
  unfold serveReadPlan
  repeat' split
  all_goals simp [answerPlan, answerCohorts]

@[simp] theorem slotData_answerCard (p c) : (answerCard p c s).slotData = s.slotData := by
  unfold answerCard
  split <;> simp

@[simp] theorem slotData_serveReadPupil (p r) : (serveReadPupil p r s).slotData = s.slotData := by
  unfold serveReadPupil
  repeat' split
  all_goals simp

/-! ### Visits of the register walker -/

@[simp] theorem slotData_advanceCursor : (advanceCursor s).slotData = s.slotData := rfl

/-! ### The Link Interface -/

@[simp] theorem slotData_setReceive (p r) : (setReceive p r s).slotData = s.slotData := rfl

@[simp] theorem slotData_overlapFrame (p) : (overlapFrame p s).slotData = s.slotData := by
  unfold overlapFrame
  split <;> simp

@[simp] theorem slotData_takeUnknownKind (p k t) :
    (takeUnknownKind p k t s).slotData = s.slotData := by
  unfold takeUnknownKind
  split <;> simp

@[simp] theorem slotData_completeReply (p) : (completeReply p s).slotData = s.slotData := by
  unfold completeReply
  repeat' split
  all_goals simp

@[simp] theorem slotData_servePortRelease (p n) :
    (servePortRelease p n s).slotData = s.slotData := by
  unfold servePortRelease
  split <;> simp

/-! ### Writes of the Plan Store and the Pupil Table -/

@[simp] theorem slotData_serveWritePlan (p r) : (serveWritePlan p r s).slotData = s.slotData := by
  unfold serveWritePlan
  split
  · simp
  · split <;> simp [takeWritePlan]

@[simp] theorem slotData_serveWriteCohorts (p l) :
    (serveWriteCohorts p l s).slotData = s.slotData := by
  unfold serveWriteCohorts
  repeat' split
  all_goals simp

@[simp] theorem slotData_serveWriteSettings (p r) :
    (serveWriteSettings p r s).slotData = s.slotData := by
  unfold serveWriteSettings
  repeat' split
  all_goals simp

@[simp] theorem slotData_serveWriteWindow (p k w) :
    (serveWriteWindow p k w s).slotData = s.slotData := by
  unfold serveWriteWindow
  split
  · exact slotData_answerOk _ _ _
  · simp

/-! ### SHIFT, the swap's tables, openings and closings -/

@[simp] theorem slotData_takeShift (p r) : (takeShift p r s).slotData = s.slotData := by
  unfold takeShift
  dsimp only
  split <;> simp

@[simp] theorem slotData_serveShift (p r) : (serveShift p r s).slotData = s.slotData := by
  unfold serveShift
  split
  · exact slotData_gateOpen (fun s => by split <;> simp) _ _ _
  · simp

@[simp] theorem slotData_swapTable (x) : (swapTable s x).slotData = s.slotData := by
  unfold swapTable
  split <;> simp

@[simp] theorem slotData_swapTables (r) : (swapTables r s).slotData = s.slotData := by
  unfold swapTables
  dsimp only
  split <;> simp [slotData_foldl slotData_swapTable]

@[simp] theorem slotData_abandonRecompute : (abandonRecompute s).slotData = s.slotData := by
  unfold abandonRecompute
  rw [slotData_foldl fun s (h : Held) => slotData_refuse s h.port .dayClosed]
  dsimp only
  split
  · exact slotData_refuse _ _ _
  · rfl

@[simp] theorem slotData_answerOpened : (answerOpened s).slotData = s.slotData := by
  unfold answerOpened
  split <;> simp

@[simp] theorem slotData_answerClosed (d t) : (answerClosed d t s).slotData = s.slotData := by
  unfold answerClosed
  split <;> simp

@[simp] theorem slotData_takeAlarm (b) : (takeAlarm b s).slotData = s.slotData := by
  simp [takeAlarm]

@[simp] theorem slotData_openTimetable : (openTimetable s).slotData = s.slotData := by
  unfold openTimetable
  split <;> simp

end Frames

end RegisterLaws

end Sys2Proof.Machine
end

section
/-! SUPPORT. Every step keeps the slot tables canonical (R62, R78, R109, R145): a write to a slot of a table
keeps its form, each operation that writes one names a slot of the table, and then each command. -/

namespace Sys2Proof.Machine

open Sys2Proof

/-- The slot tables with the Pupil Table's records among them, whose slots the other tables' writes name. -/
def State.slotsKept (s : State) : Prop :=
  tableWf none Config.slots s.pupils.pupils = true ∧ s.canonical

namespace RegisterLaws

/-- An operation that keeps the slot tables canonical. -/
def KeepsSlots (f : State → State) : Prop := ∀ s : State, s.slotsKept → (f s).slotsKept

variable {s : State}

/-! ### The invariant -/

theorem slotsKept_of_slotData {t : State} (h : t.slotData = s.slotData) (hs : s.slotsKept) :
    t.slotsKept := by
  simp only [State.slotData, Prod.mk.injEq] at h
  obtain ⟨hpupils, hrecords, hamendments, hholds, htotals⟩ := h
  simpa only [State.slotsKept, State.canonical, hpupils, hrecords, hamendments, hholds, htotals] using hs

theorem keepsSlots_of_slotData {f : State → State} (h : ∀ s, (f s).slotData = s.slotData) :
    KeepsSlots f := fun s => slotsKept_of_slotData (h s)

theorem slotsKept_foldl {α : Type} {f : State → α → State} (h : ∀ x, KeepsSlots fun s => f s x)
    (l : List α) {s : State} (hs : s.slotsKept) : (l.foldl f s).slotsKept := by
  induction l generalizing s with
  | nil => exact hs
  | cons x l ih => exact ih (h x s hs)

/-! ### Slots that are slots of the table -/

theorem lt_of_mem_tableWf {α : Type} [DecidableEq α] {d : α} {b k : Nat} {v : α} :
    ∀ {t : SlotTable α}, tableWf d b t = true → (k, v) ∈ t → k < b
  | (j, w) :: rest, h, hmem => by
    obtain ⟨hj, -, -, hrest⟩ := tableWf_cons.mp h
    rcases List.mem_cons.mp hmem with heq | hmem
    · cases heq
      exact hj
    · exact lt_of_mem_tableWf hrest hmem

theorem lt_slots_of_pupilAt (hs : s.slotsKept) {k : Nat} {p : Pupil} (h : pupilAt s k = some p) :
    k < Config.slots := by
  refine lt_of_mem_tableWf hs.1 (mem_of_readSlot (d := none) ?_)
  exact fun hnone => nomatch h.symm.trans hnone

theorem lt_slots_of_holdsRef (hs : s.slotsKept) {k : Nat} {ref : PupilRef}
    (h : holdsRef s k ref = true) : k < Config.slots := by
  obtain ⟨p, hp, -⟩ := Option.map_eq_some_iff.1 (beq_iff_eq.1 h)
  exact lt_slots_of_pupilAt hs hp

theorem lt_slots_of_lookup (hs : s.slotsKept) {ref : PupilRef} {k : Nat} {p : Pupil}
    (h : lookup s ref = some (k, p)) : k < Config.slots := by
  unfold lookup at h
  split at h
  · cases h
  · obtain ⟨⟨j, r⟩, hmem, hmap⟩ := List.mem_filterMap.1 (List.mem_of_find?_eq_some h)
    obtain ⟨q, -, heq⟩ := Option.map_eq_some_iff.1 hmap
    cases heq
    exact lt_of_mem_tableWf hs.1 hmem

theorem lt_slots_of_cardMatch {card k w : Nat} {p : Pupil}
    (h : cardMatch s card = .matched k w p) : k < Config.slots := by
  unfold cardMatch at h
  split at h
  · cases h
  · dsimp only at h
    repeat' split at h
    all_goals cases h
    assumption

/-! ### Writes -/

theorem slotsKept_setPupil (hs : s.slotsKept) {k : Nat} (hk : k < Config.slots) (r : Option Pupil) :
    (setPupil k r s).slotsKept :=
  ⟨tableWf_writeSlot r hs.1 hk, hs.2⟩

theorem slotsKept_setRecord (hs : s.slotsKept) {k : Nat} (hk : k < Config.slots)
    (r : RegisterRecord) : (setRecord k r s).slotsKept := by
  obtain ⟨hpupils, hrecords, hrest⟩ := hs
  exact ⟨hpupils, tableWf_writeSlot r hrecords hk, hrest⟩

theorem slotsKept_setHold (hs : s.slotsKept) {route : Nat} (hroute : route < 32)
    (h : Option RouteHold) : (setHold route h s).slotsKept := by
  obtain ⟨hpupils, hrecords, hholds, hrest⟩ := hs
  exact ⟨hpupils, hrecords, tableWf_writeSlot h hholds hroute, hrest⟩

theorem slotsKept_setTotals (hs : s.slotsKept) {k : Nat} (hk : k < Config.slots) (r : Accumulator) :
    (setTotals k r s).slotsKept := by
  obtain ⟨hpupils, hrecords, hholds, htotals, hamendments⟩ := hs
  exact ⟨hpupils, hrecords, hholds, tableWf_writeSlot r htotals hk, hamendments⟩

/-- Amendments that name slots of the table may replace the list (R92). -/
theorem slotsKept_withAmendments (hs : s.slotsKept) {f : DayRegister → DayRegister}
    (hrecords : (f s.register).records = s.register.records)
    (hamendments : ∀ a ∈ (f s.register).amendments, a.slot < Config.slots) :
    (s.onRegister f).slotsKept := by
  obtain ⟨hpupils, htable, hholds, htotals, -⟩ := hs
  refine ⟨hpupils, ?_, hholds, htotals, hamendments⟩
  simpa only [onRegister_register, hrecords] using htable

theorem slotsKept_resetRecord (hs : s.slotsKept) {k : Nat} (hk : k < Config.slots) (am pm : Mark) :
    (resetRecord k am pm s).slotsKept :=
  slotsKept_setRecord hs hk _

/-! ### The Day Register (R79 to R95) -/

theorem slotsKept_setPresence (hs : s.slotsKept) {k : Nat} (hk : k < Config.slots) (x : Presence) :
    (setPresence k x s).slotsKept := by
  dsimp only [setPresence]
  split
  · exact hs
  · exact slotsKept_of_slotData (slotData_withWires _ _) (slotsKept_setRecord hs hk _)

theorem slotsKept_appendAmendment (hs : s.slotsKept) {a : Amendment} (ha : a.slot < Config.slots) :
    (appendAmendment a s).slotsKept := by
  have hall := hs.2.2.2.2
  unfold appendAmendment
  split
  · next old rest heq =>
    rw [heq] at hall
    obtain ⟨hold, hrest⟩ := List.forall_mem_cons.1 hall
    split
    · refine slotsKept_of_slotData (slotData_reportFault _ _)
        (slotsKept_withAmendments (slotsKept_setRecord hs hold _) rfl ?_)
      exact List.forall_mem_append.2 ⟨hrest, List.forall_mem_singleton.2 ha⟩
    · refine slotsKept_withAmendments hs rfl ?_
      rw [heq]
      exact List.forall_mem_append.2 ⟨hall, List.forall_mem_singleton.2 ha⟩
  · exact slotsKept_withAmendments hs rfl (List.forall_mem_singleton.2 ha)

theorem slotsKept_applyChange (hs : s.slotsKept) (m : SessionMarks) {p : Proposal}
    (hk : p.slot < Config.slots) (ref : PupilRef) (mark : Mark) :
    (applyChange m p ref mark s).slotsKept := by
  rw [applyChange_eq]
  refine slotsKept_of_slotData ((slotData_enterUnexplained _ _ _ _).trans
    (slotData_leaveUnexplainedMark _ _ _ _ _)) ?_
  have hpresence : (madePresence p.slot mark (setRecord p.slot
      ((recordAt s p.slot).setSession p.session (changedMarks m p mark)) s)).slotsKept := by
    unfold madePresence
    split
    · exact slotsKept_setPresence (slotsKept_setRecord hs hk _) hk _
    · exact slotsKept_setRecord hs hk _
  unfold madeAmendment
  split
  · exact hpresence
  · exact slotsKept_appendAmendment hpresence hk

theorem slotsKept_applyRepeat (hs : s.slotsKept) (m : SessionMarks) {p : Proposal}
    (hk : p.slot < Config.slots) (mark : Mark) : (applyRepeat m p mark s).slotsKept := by
  unfold applyRepeat
  split
  · exact slotsKept_setRecord hs hk _
  · exact hs

/-- A proposal changes a record of a pupil's slot alone (R80). -/
theorem keepsSlots_propose (p : Proposal) : KeepsSlots fun s => (propose p s).1 := by
  intro s hs
  dsimp only [propose]
  split
  · exact hs
  · next pupil hpupil =>
    have hk := lt_slots_of_pupilAt hs hpupil
    split
    · exact hs
    · split
      · exact hs
      · exact slotsKept_of_slotData (slotData_tellMessages _ _) hs
      · split
        · exact slotsKept_applyRepeat hs _ hk _
        · exact slotsKept_applyChange hs _ hk _ _

theorem keepsSlots_proposeEach (make : Session → Proposal) (l : List Session) :
    KeepsSlots fun s => (proposeEach make l s).1 := by
  intro s hs
  induction l generalizing s with
  | nil => exact hs
  | cons x l ih => exact ih _ (keepsSlots_propose _ s hs)

theorem slotsKept_takeSignIn (hs : s.slotsKept) {r : SignInReport} (hk : r.slot < Config.slots) :
    (takeSignIn r s).1.slotsKept := by
  unfold takeSignIn
  cases r.proposal with
  | none => exact slotsKept_setPresence (slotsKept_setRecord hs hk _) hk _
  | some p => exact slotsKept_setPresence (slotsKept_setRecord (keepsSlots_propose p s hs) hk _) hk _

theorem slotsKept_takeSignOut (hs : s.slotsKept) {k : Nat} (hk : k < Config.slots) (stamp : Stamp)
    (returning : Bool) (l : List Session) : (takeSignOut k stamp returning l s).1.slotsKept :=
  keepsSlots_proposeEach _ _ _ (slotsKept_setPresence (slotsKept_setRecord hs hk _) hk _)

/-- A gate refuses the request, holds it, or lets its owner take it (R13). -/
theorem keepsSlots_gateOpen {f : State → State} (hf : KeepsSlots f) (p : PortId) (h : Holdable) :
    KeepsSlots (gateOpen p h f) := by
  intro s hs
  unfold gateOpen
  split
  · exact slotsKept_of_slotData (slotData_refuse _ _ _) hs
  · exact slotsKept_of_slotData (slotData_refuse _ _ _) hs
  · exact slotsKept_of_slotData (slotData_holdRequest _ _ _) hs
  · exact hf s hs

theorem keepsSlots_gateNotice {f : State → State} (hf : KeepsSlots f) (p : PortId) (h : Holdable) :
    KeepsSlots (gateNotice p h f) := by
  intro s hs
  unfold gateNotice
  split
  · exact slotsKept_of_slotData (slotData_holdRequest _ _ _) hs
  all_goals exact hf s hs

theorem keepsSlots_gateRegister {f : State → State} (hf : KeepsSlots f) (p : PortId)
    (h : Holdable) : KeepsSlots (gateRegister p h f) := by
  intro s hs
  unfold gateRegister
  split
  · exact slotsKept_of_slotData (slotData_holdRequest _ _ _) hs
  · exact slotsKept_of_slotData (slotData_holdRequest _ _ _) hs
  all_goals exact hf s hs

theorem keepsSlots_takeMark (p : PortId) (r : MarkReq) : KeepsSlots (takeMark p r) := by
  intro s hs
  dsimp only [takeMark]
  split
  · exact slotsKept_of_slotData (slotData_refuse _ _ _) hs
  · split
    · exact slotsKept_of_slotData (slotData_refuse _ _ _) hs
    · repeat' split
      · exact slotsKept_of_slotData (slotData_refuse _ _ _) hs
      · exact slotsKept_of_slotData (slotData_refuse _ _ _) hs
      all_goals exact slotsKept_of_slotData (slotData_answer _ _ _ _ _) (keepsSlots_propose _ s hs)

theorem keepsSlots_serveMark (p : PortId) (r : MarkReq) : KeepsSlots (serveMark p r) :=
  keepsSlots_gateOpen (keepsSlots_takeMark p r) _ _

theorem keepsSlots_takeReadChanges (p : PortId) : KeepsSlots (takeReadChanges p) := by
  intro s hs
  refine slotsKept_of_slotData (slotData_answerOk _ _ _) (slotsKept_withAmendments hs rfl ?_)
  obtain ⟨-, -, -, -, hall⟩ := hs
  exact fun a ha => hall a (List.mem_of_mem_drop ha)

theorem keepsSlots_serveReadChanges (p : PortId) : KeepsSlots (serveReadChanges p) :=
  keepsSlots_gateRegister (keepsSlots_takeReadChanges p) _ _

/-- A report of an alert state is taken for a slot that still holds its pupil (R132). -/
theorem keepsSlots_takeReport : KeepsSlots takeReport := by
  intro s hs
  unfold takeReport
  split
  · exact hs
  · dsimp only
    split
    · next hholds => exact slotsKept_setRecord hs (lt_slots_of_holdsRef hs hholds) _
    · exact hs

/-! ### Notices (R126 to R129, R142) -/

theorem keepsSlots_applyNotice (k : Nat) (n : HeldNotice) : KeepsSlots fun s => (applyNotice k n s).1 := by
  intro s hs
  dsimp only [applyNotice]
  have happlied : (if n.dueToday s then
        proposeEach (noticeProposal k n.kind n.reason (now s)) n.sessions.list s
      else (s, [])).1.slotsKept := by
    split
    · exact keepsSlots_proposeEach _ _ s hs
    · exact hs
  split
  · exact slotsKept_of_slotData (slotData_storeStanding _ _) happlied
  · exact happlied

theorem keepsSlots_takeVerified (p : PortId) (k : Nat) (n : HeldNotice) :
    KeepsSlots (takeVerified p k n) := by
  intro s hs
  unfold takeVerified
  split
  · exact slotsKept_of_slotData (by simp) hs
  · exact slotsKept_of_slotData (slotData_answerOk _ _ _) (keepsSlots_applyNotice k n s hs)

theorem keepsSlots_takeNotice (p : PortId) (r : NoticeReq) : KeepsSlots (takeNotice p r) := by
  intro s hs
  unfold takeNotice
  repeat' split
  · exact slotsKept_of_slotData (slotData_answer _ _ _ _ _) hs
  · exact slotsKept_of_slotData (slotData_refuse _ _ _) hs
  · exact keepsSlots_takeVerified _ _ _ s hs
  · exact slotsKept_of_slotData (slotData_takeUnverified _ _ _ _ _) hs
  · exact slotsKept_of_slotData (slotData_refuse _ _ _) hs

theorem keepsSlots_serveNotice (p : PortId) (r : NoticeReq) : KeepsSlots (serveNotice p r) :=
  keepsSlots_gateNotice (keepsSlots_takeNotice p r) _ _

theorem keepsSlots_takeConfirmNotice (p : PortId) (k : Nat) (b : Bool) :
    KeepsSlots (takeConfirmNotice p k b) := by
  intro s hs
  dsimp only [takeConfirmNotice]
  split
  · split
    · exact slotsKept_of_slotData (slotData_refuse _ _ _) hs
    · next n _ =>
      have happlied := keepsSlots_applyNotice k n s hs
      repeat' split
      · exact slotsKept_of_slotData (by simp) hs
      · exact slotsKept_of_slotData (by simp) hs
      all_goals exact slotsKept_of_slotData (by simp) happlied
  · exact slotsKept_of_slotData (slotData_refuse _ _ _) hs

theorem keepsSlots_serveConfirmNotice (p : PortId) (k : Nat) (b : Bool) :
    KeepsSlots (serveConfirmNotice p k b) :=
  keepsSlots_gateNotice (keepsSlots_takeConfirmNotice p k b) _ _

theorem keepsSlots_visitStanding (k : Nat) : KeepsSlots (visitStanding k) := by
  intro s hs
  unfold visitStanding
  repeat' split
  · exact hs
  · exact slotsKept_of_slotData (slotData_dropStanding _ _) hs
  · exact keepsSlots_proposeEach _ _ s hs
  · exact hs

/-! ### The Term Accumulators (R146 to R153) -/

theorem keepsSlots_takeLateness (a : LatenessAsk) : KeepsSlots (takeLateness a) := by
  intro s hs
  unfold takeLateness
  split
  · next hholds => exact slotsKept_setTotals hs (lt_slots_of_holdsRef hs hholds) _
  · exact hs

theorem keepsSlots_takeOpenMinutes (k : Nat) (ref : PupilRef) (minutes : Nat) :
    KeepsSlots (takeOpenMinutes k ref minutes) := by
  intro s hs
  unfold takeOpenMinutes
  split
  · next hholds => exact slotsKept_setTotals hs (lt_slots_of_holdsRef hs hholds) _
  · exact hs

theorem keepsSlots_takeFold (k : Nat) (ref : PupilRef) (d : DayNumber) (am pm : Mark) :
    KeepsSlots (takeFold k ref d am pm) := by
  intro s hs
  dsimp only [takeFold]
  split
  · next hholds =>
    have hfolded := slotsKept_setTotals hs (lt_slots_of_holdsRef hs hholds)
      ((totalsAt s k).folded d am pm)
    repeat' split
    · exact hs
    · exact slotsKept_of_slotData (slotData_askConcern _ _ _) hfolded
    · exact hfolded
  · exact hs

/-- Totals with no record listed are canonical. -/
theorem slotsKept_clearTotals (hs : s.slotsKept) (n : Nat) :
    ({ s with totals := ⟨[], n⟩ } : State).slotsKept := by
  obtain ⟨hpupils, hrecords, hholds, -, hamendments⟩ := hs
  exact ⟨hpupils, hrecords, hholds, rfl, hamendments⟩

theorem keepsSlots_serveTermReset (p : PortId) : KeepsSlots (serveTermReset p) := by
  intro s hs
  unfold serveTermReset
  split
  · exact slotsKept_of_slotData (slotData_answerOk _ _ _) (slotsKept_clearTotals hs 0)
  all_goals exact slotsKept_of_slotData (slotData_refuse _ _ _) hs

/-! ### The Pupil Table (R64 to R69) -/

theorem slotsKept_resetForToday (hs : s.slotsKept) {k : Nat} (hk : k < Config.slots) :
    (resetForToday k s).slotsKept :=
  slotsKept_resetRecord hs hk _ _

/-- A WRITE-PUPIL that passes its checks names a slot of the table (R64). -/
theorem lt_slots_of_pupilCheck {r : PupilReq} (h : pupilCheck s r = none) : r.slot < Config.slots := by
  unfold pupilCheck at h
  split at h
  · cases h
  · next hrange =>
    simp only [pupilInRange, Bool.not_eq_true', Bool.not_eq_false, Bool.and_eq_true] at hrange
    obtain ⟨⟨⟨⟨⟨⟨⟨hslot, -⟩, -⟩, -⟩, -⟩, -⟩, -⟩, -⟩ := hrange
    exact of_decide_eq_true hslot

theorem keepsSlots_serveWritePupil (p : PortId) (r : PupilReq) : KeepsSlots (serveWritePupil p r) := by
  intro s hs
  unfold serveWritePupil
  split
  · exact slotsKept_of_slotData (slotData_answer _ _ _ _ _) hs
  · next hcheck =>
    have hk := lt_slots_of_pupilCheck hcheck
    have hwritten := slotsKept_setPupil hs hk (some r.stored)
    dsimp only [takeWritePupil]
    refine slotsKept_of_slotData (slotData_answerOk _ _ _) ?_
    split
    · exact slotsKept_resetForToday hwritten hk
    · exact hwritten

theorem slotsKept_clearSlot (hs : s.slotsKept) {k : Nat} (hk : k < Config.slots) :
    (clearSlot k s).slotsKept := by
  refine slotsKept_setTotals (slotsKept_of_slotData (slotData_clearMessages _ _) ?_) hk _
  exact slotsKept_resetRecord (slotsKept_setPupil hs hk _) hk _ _

theorem keepsSlots_serveClearPupil (p : PortId) (k : Nat) (ref : PupilRef) :
    KeepsSlots (serveClearPupil p k ref) := by
  intro s hs
  unfold serveClearPupil
  split
  · next hk =>
    repeat' split
    · exact slotsKept_of_slotData (slotData_answerOk _ _ _) (slotsKept_clearSlot hs hk)
    all_goals exact slotsKept_of_slotData (slotData_refuse _ _ _) hs
  · exact slotsKept_of_slotData (slotData_refuse _ _ _) hs

/-! ### The Arrivals Unit (R99 to R114) -/

theorem slotsKept_plainSignIn (hs : s.slotsKept) {k : Nat} (hk : k < Config.slots) (p : PortId)
    (pupil : Pupil) (c : ArrivalClass) (st : Status) (stamp : Stamp) (b : Bool) :
    (plainSignIn p k pupil c st stamp b s).slotsKept :=
  slotsKept_of_slotData (slotData_answer _ _ _ _ _) (slotsKept_takeSignIn hs hk)

theorem slotsKept_proposedSignIn (hs : s.slotsKept) {k : Nat} (hk : k < Config.slots) (p : PortId)
    (pupil : Pupil) (x : Session) (c : ArrivalClass) (late : Option LateFigures)
    (excuse : Option Excuse) (clamped : Bool) (stamp : Stamp) (b : Bool) :
    (proposedSignIn p k pupil x c late excuse clamped stamp b s).slotsKept := by
  dsimp only [proposedSignIn]
  refine slotsKept_of_slotData (slotData_answer _ _ _ _ _) ?_
  split
  · exact slotsKept_of_slotData (slotData_askLateness _ _) (slotsKept_takeSignIn hs hk)
  · exact slotsKept_takeSignIn hs hk

theorem slotsKept_takeArrival (hs : s.slotsKept) {k : Nat} (hk : k < Config.slots) (p : PortId)
    (pupil : Pupil) (b : Bool) : (takeArrival p k pupil b s).slotsKept := by
  dsimp only [takeArrival]
  split
  · exact slotsKept_of_slotData (slotData_answer _ _ _ _ _) hs
  · exact slotsKept_plainSignIn hs hk _ _ _ _ _ _
  · split
    · exact slotsKept_plainSignIn hs hk _ _ _ _ _ _
    · exact slotsKept_plainSignIn hs hk _ _ _ _ _ _
    · exact slotsKept_proposedSignIn hs hk _ _ _ _ _ _ _ _ _
    · exact slotsKept_proposedSignIn hs hk _ _ _ _ _ _ _ _ _

theorem keepsSlots_takeCard (p : PortId) (card : Nat) (retry : Bool) :
    KeepsSlots (takeCard p card retry) := by
  intro s hs
  have hretried := slotsKept_of_slotData (slotData_reportRetry s p card retry) hs
  dsimp only [takeCard]
  split
  · split
    · next hmatch => exact slotsKept_takeArrival hretried (lt_slots_of_cardMatch hmatch) _ _ _
    all_goals exact slotsKept_of_slotData (slotData_refuseCard _ _ _ _) hretried
  · exact slotsKept_of_slotData (slotData_refuse _ _ _) hs

theorem keepsSlots_serveSignIn (p : PortId) (r : SignInReq) : KeepsSlots (serveSignIn p r) := by
  refine keepsSlots_gateOpen (fun s hs => ?_) _ _
  unfold takeSignInRequest
  split
  · exact keepsSlots_takeCard _ _ _ s hs
  · split
    · next hlookup => exact slotsKept_takeArrival hs (lt_slots_of_lookup hs hlookup) _ _ _
    · exact slotsKept_of_slotData (slotData_refuse _ _ _) hs
  all_goals exact slotsKept_of_slotData (slotData_refuse _ _ _) hs

theorem keepsSlots_serveSignOut (p : PortId) (r : SignOutReq) : KeepsSlots (serveSignOut p r) := by
  intro s hs
  unfold serveSignOut
  split
  · refine keepsSlots_gateOpen (fun s hs => ?_) _ _ s hs
    unfold takeSignOutRequest
    split
    · exact slotsKept_of_slotData (slotData_refuse _ _ _) hs
    · next hlookup =>
      exact slotsKept_of_slotData (slotData_answerOk _ _ _)
        (slotsKept_takeSignOut hs (lt_slots_of_lookup hs hlookup) _ _ _)
  · exact slotsKept_of_slotData (slotData_refuse _ _ _) hs

/-- A ROUTE-HOLD that passes its checks names a route of the table (R110). -/
theorem keepsSlots_serveRouteHold (p : PortId) (r : RouteHoldReq) : KeepsSlots (serveRouteHold p r) := by
  intro s hs
  unfold serveRouteHold
  split
  · next hok =>
    have hroute : r.route < 32 := by
      obtain ⟨hwithin, -⟩ := (Bool.and_eq_true _ _).mp hok
      exact Nat.lt_succ_of_le (TimetableLaws.within_iff.1 hwithin).2
    refine keepsSlots_gateOpen (fun s hs => ?_) _ _ s hs
    exact slotsKept_of_slotData ((slotData_answer _ _ _ _ _).trans (slotData_setWait _ _ _))
      (slotsKept_setHold hs hroute _)
  · exact slotsKept_of_slotData (slotData_refuse _ _ _) hs

/-- A hold that ends was an active one, of a route of the table (R112). -/
theorem keepsSlots_expireHold (route : Nat) : KeepsSlots fun s => expireHold s route := by
  intro s hs
  dsimp only [expireHold]
  split
  · exact hs
  · next h hactive =>
    split
    · have hroute : route < 32 := by
        refine lt_of_mem_tableWf hs.2.2.1 (mem_of_readSlot (d := none) ?_)
        exact fun hnone => nomatch hactive.symm.trans hnone
      exact slotsKept_of_slotData (slotData_joinRoute _ _ _) (slotsKept_setHold hs hroute _)
    · exact hs

/-! ### Visits of the register walker (R91, R96, R97, R119, R120) -/

theorem keepsSlots_sessionSweep (plan : Nat) (x : Session) (k : Nat) :
    KeepsSlots (sessionSweep plan x k) := by
  intro s hs
  unfold sessionSweep
  repeat' split
  · exact hs
  · exact keepsSlots_propose _ s hs
  · exact hs

theorem keepsSlots_routeSweep (routes : RouteSet) (k : Nat) : KeepsSlots (routeSweep routes k) := by
  intro s hs
  unfold routeSweep
  repeat' split
  · exact hs
  · exact hs
  · refine slotsKept_foldl (fun x s hs => ?_) _ hs
    dsimp only [routeSweepSession]
    split
    · exact keepsSlots_propose _ s hs
    · exact hs
  · exact hs

theorem keepsSlots_groupWalk (c : GroupContents) (k : Nat) : KeepsSlots (groupWalk c k) := by
  intro s hs
  unfold groupWalk
  repeat' split
  · exact hs
  · refine slotsKept_foldl (fun x s hs => ?_) _ hs
    exact slotsKept_of_slotData (slotData_onRegister rfl rfl) (keepsSlots_propose _ s hs)
  · exact hs

theorem slotsKept_openVisit (hs : s.slotsKept) {k : Nat} (hk : k < Config.slots) :
    (openVisit k s).slotsKept :=
  keepsSlots_visitStanding k _ (slotsKept_resetForToday hs hk)

theorem keepsSlots_closeVisit (k : Nat) : KeepsSlots (closeVisit k) := by
  intro s hs
  unfold closeVisit
  split
  · exact hs
  · next pupil hpupil =>
    have hk := lt_slots_of_pupilAt hs hpupil
    refine slotsKept_of_slotData (slotData_tellAccumulators _ _)
      (slotsKept_foldl (fun x s hs => ?_) _
        (slotsKept_foldl (fun _ => keepsSlots_propose _) _ hs))
    dsimp only [accrueOpen]
    split
    · exact slotsKept_of_slotData (slotData_tellAccumulators _ _) (slotsKept_setRecord hs hk _)
    · exact hs

/-! ### Openings, closings, minutes and seconds (R2, R5, R9, R12) -/

theorem keepsSlots_takeOpening : KeepsSlots takeOpening := by
  intro s hs
  obtain ⟨hpupils, hrecords, hholds, htotals, -⟩ := hs
  exact ⟨hpupils, hrecords, hholds, htotals, fun a ha => absurd ha List.not_mem_nil⟩

theorem keepsSlots_endHolds : KeepsSlots endHolds := by
  intro s hs
  obtain ⟨hpupils, hrecords, -, hrest⟩ := hs
  exact ⟨hpupils, hrecords, rfl, hrest⟩

theorem keepsSlots_takeClosing : KeepsSlots takeClosing := by
  intro s hs
  refine slotsKept_of_slotData ((slotData_abandonRecompute _).trans (slotData_closeMessages _)) ?_
  exact keepsSlots_endHolds _ (slotsKept_of_slotData (slotData_onRegister rfl rfl) hs)

theorem keepsSlots_minuteEvent (t : Stamp) : KeepsSlots (minuteEvent t) := by
  intro s hs
  refine slotsKept_of_slotData (slotData_timetableMinute _ _ _) ?_
  have hopened : (autoOpen (t.time / 60) s).slotsKept := by
    unfold autoOpen
    split
    · exact keepsSlots_takeOpening s hs
    · exact hs
  unfold autoClose
  repeat' split
  · exact keepsSlots_takeClosing _ hopened
  · exact slotsKept_of_slotData (slotData_onDay _ _) hopened
  all_goals exact hopened

theorem keepsSlots_minuteIfWhole (t : Stamp) : KeepsSlots (minuteIfWhole t) := by
  intro s hs
  unfold minuteIfWhole
  split
  · exact keepsSlots_minuteEvent t s hs
  · exact hs

theorem keepsSlots_settleExpiries : KeepsSlots settleExpiries := fun _ hs =>
  slotsKept_of_slotData (slotData_expireHandovers _) (slotsKept_foldl keepsSlots_expireHold _ hs)

theorem keepsSlots_secondTaken : KeepsSlots secondTaken := keepsSlots_of_slotData slotData_secondTaken

theorem keepsSlots_tick (b : Bool) : KeepsSlots (tick b) := by
  intro s hs
  have hsettled : (State.onClock (settleExpiries s) Clock.advance).slotsKept :=
    slotsKept_of_slotData (slotData_onClock _ _) (keepsSlots_settleExpiries s hs)
  cases b with
  | true => exact keepsSlots_minuteIfWhole _ _ (keepsSlots_secondTaken _ hsettled)
  | false => exact keepsSlots_secondTaken _ (keepsSlots_minuteIfWhole _ _ hsettled)

theorem keepsSlots_serveSetTime (p : PortId) (time : Nat) (day : DayNumber) (base : Nat) :
    KeepsSlots (serveSetTime p time day base) := by
  intro s hs
  unfold serveSetTime
  split
  · exact slotsKept_of_slotData (slotData_refuse _ _ _) hs
  · dsimp only
    split
    · refine slotsKept_of_slotData (slotData_answerOk _ _ _) (keepsSlots_secondTaken _ ?_)
      refine slotsKept_foldl (fun m => keepsSlots_minuteEvent m) _ ?_
      exact slotsKept_of_slotData rfl (keepsSlots_settleExpiries s hs)
    · exact slotsKept_of_slotData (slotData_refuse _ _ _) hs

theorem keepsSlots_serveDayOpen (p : PortId) : KeepsSlots (serveDayOpen p) := by
  intro s hs
  unfold serveDayOpen
  repeat' split
  · exact slotsKept_of_slotData (slotData_refuse _ _ _) hs
  · exact slotsKept_of_slotData (slotData_onDay _ _) (keepsSlots_takeOpening s hs)
  all_goals exact slotsKept_of_slotData (slotData_refuse _ _ _) hs

theorem keepsSlots_serveDayClose (p : PortId) : KeepsSlots (serveDayClose p) := by
  intro s hs
  unfold serveDayClose
  split
  · exact slotsKept_of_slotData (slotData_onDay _ _) (keepsSlots_takeClosing s hs)
  all_goals exact slotsKept_of_slotData (slotData_refuse _ _ _) hs

/-! ### What waited (R11, R15, R46) -/

theorem keepsSlots_serveHeld (h : Held) : KeepsSlots (serveHeld h) := by
  obtain ⟨p, request⟩ := h
  cases request with
  | mark r => exact keepsSlots_serveMark p r
  | groupMark r => exact keepsSlots_of_slotData fun s => slotData_serveGroupMark s p r
  | signIn r => exact keepsSlots_serveSignIn p r
  | signOut r => exact keepsSlots_serveSignOut p r
  | routeHold r => exact keepsSlots_serveRouteHold p r
  | shift r => exact keepsSlots_of_slotData fun s => slotData_serveShift s p r
  | notice r => exact keepsSlots_serveNotice p r
  | confirmNotice k b => exact keepsSlots_serveConfirmNotice p k b
  | readRegister r => exact keepsSlots_of_slotData fun s => slotData_serveReadRegister s p r
  | readChanges => exact keepsSlots_serveReadChanges p
  | readTimetable a b => exact keepsSlots_of_slotData fun s => slotData_serveReadTimetable s p a b

theorem keepsSlots_takeWaiting (n : Nat) (order : List Nat) (todo : List Waiting) :
    KeepsSlots (takeWaiting n order todo) := by
  intro s hs
  induction n generalizing order todo s with
  | zero => exact hs
  | succ n ih =>
    unfold takeWaiting
    dsimp only
    split
    · exact hs
    · next w _ =>
      refine ih _ _ _ ?_
      cases w with
      | request h => exact keepsSlots_serveHeld h s hs
      | close => exact keepsSlots_takeClosing s hs

theorem keepsSlots_releaseHeld (order : List Nat) : KeepsSlots (releaseHeld order) := fun _ hs =>
  keepsSlots_takeWaiting _ _ _ _ (slotsKept_of_slotData (slotData_onDay _ _) hs)

theorem keepsSlots_takeHeldForSwap (l : List Held) : KeepsSlots (takeHeldForSwap l) := by
  intro s hs
  induction l generalizing s with
  | nil => exact hs
  | cons h l ih =>
    unfold takeHeldForSwap
    split
    · exact slotsKept_of_slotData rfl hs
    · exact ih _ (keepsSlots_serveHeld h s hs)

theorem keepsSlots_takeSwap (r : Recompute) : KeepsSlots (takeSwap r) := fun _ hs =>
  keepsSlots_takeHeldForSwap _ _ (slotsKept_of_slotData (slotData_swapTables _ _) hs)

theorem keepsSlots_completeOpen (order : List Nat) : KeepsSlots (completeOpen order) := by
  intro s hs
  exact keepsSlots_releaseHeld order _ (slotsKept_of_slotData (by simp) hs)

theorem keepsSlots_completeClose (order : List Nat) : KeepsSlots (completeClose order) := by
  intro s hs
  refine keepsSlots_releaseHeld order _ (slotsKept_of_slotData (slotData_answerClosed _ _ _) ?_)
  exact slotsKept_of_slotData ((slotData_onDay _ _).trans (slotData_dropWalk _)) hs

/-! ### Resets (R17, R18, R98) -/

/-- A reset leaves no record, amendment or hold listed, and keeps the Pupil Table and the totals. -/
theorem slotsKept_restartWith (clock : Clock) (roles : Vector Role 6)
    (hpupils : tableWf none Config.slots s.pupils.pupils = true)
    (htotals : tableWf zeroAccumulator Config.slots s.totals.records = true) :
    (restartWith clock roles s).slotsKept :=
  ⟨hpupils, rfl, rfl, htotals, fun _ ha => absurd ha List.not_mem_nil⟩

theorem keepsSlots_restartEffect : KeepsSlots restartEffect := fun _ hs =>
  slotsKept_restartWith _ _ hs.1 hs.2.2.2.1

theorem keepsSlots_powerOn (straps : Vector (BitVec 3) 6) (retainOk : Bool) :
    KeepsSlots (powerOn straps retainOk) := by
  intro s hs
  cases retainOk with
  | true => exact slotsKept_restartWith _ _ hs.1 hs.2.2.2.1
  | false => exact slotsKept_restartWith _ _ rfl rfl

theorem keepsSlots_takeDown {f : State → State} (hf : ∀ s, (f s).slotData = s.slotData) (t : PortId)
    (x : PortState) (c : Option Nat) : KeepsSlots (takeDown t x c f) := by
  intro s hs
  unfold takeDown
  dsimp only
  have hdown := slotsKept_of_slotData (slotData_setPort s t ((s.port t).down x c)) hs
  split
  · exact keepsSlots_restartEffect _ hdown
  · exact slotsKept_of_slotData (hf _) hdown

theorem keepsSlots_servePortPark (p : PortId) (n : Nat) : KeepsSlots (servePortPark p n) := by
  intro s hs
  dsimp only [servePortPark]
  repeat' split
  · exact slotsKept_of_slotData (slotData_refuse _ _ _) hs
  · exact slotsKept_of_slotData (slotData_refuse _ _ _) hs
  · exact keepsSlots_takeDown (fun s => slotData_answerOk s _ _) _ _ _ s hs
  all_goals exact slotsKept_of_slotData (by simp) hs

theorem keepsSlots_servePortCycle (p : PortId) (n : Nat) : KeepsSlots (servePortCycle p n) := by
  intro s hs
  unfold servePortCycle
  repeat' split
  · exact slotsKept_of_slotData (slotData_refuse _ _ _) hs
  · exact slotsKept_of_slotData (slotData_refuse _ _ _) hs
  · exact slotsKept_of_slotData (slotData_refuse _ _ _) hs
  · exact keepsSlots_takeDown (fun s => slotData_answerOk s _ _) _ _ _ s hs
  · exact slotsKept_of_slotData (by simp) hs

/-! ### Requests, events and visits -/

/-- A command that goes on to a state whose slot tables are canonical. -/
def NextCanonical (o : Host.Outcome State Fault Refusal) : Prop := ∀ t, o = .next t → t.slotsKept

theorem nextCanonical_next (hs : s.slotsKept) : NextCanonical (.next s) := by
  rintro t ⟨⟩
  exact hs

theorem nextCanonical_request (hs : s.slotsKept) {f : Frame} {k : Kind} {owner : State → State}
    (h : KeepsSlots owner) : NextCanonical (request f k owner s) := by
  refine nextCanonical_next ?_
  dsimp only [takeFrame]
  repeat' split
  · exact slotsKept_of_slotData (by simp) hs
  · exact slotsKept_of_slotData (by simp) hs
  · exact slotsKept_of_slotData (by simp) hs
  · exact h _ (slotsKept_of_slotData (slotData_enterService _ _ _ _) hs)
  · exact hs

theorem nextCanonical_event (hs : s.slotsKept) {effect : State → State} (h : (effect s).slotsKept) :
    NextCanonical (event effect s) := by
  refine nextCanonical_next ?_
  split
  · exact h
  · exact hs

theorem nextCanonical_event_of_slotData (hs : s.slotsKept) {effect : State → State}
    (h : (effect s).slotData = s.slotData) : NextCanonical (event effect s) :=
  nextCanonical_event hs (slotsKept_of_slotData h hs)

/-- A visit of the register walker is made at a slot of the table (R118). -/
theorem nextCanonical_visit (hs : s.slotsKept) {effect : Walk → Nat → State → Option State}
    (h : ∀ w k t, k < Config.slots → effect w k s = some t → t.slotsKept) :
    NextCanonical (event (visit effect) s) := by
  refine nextCanonical_event hs ?_
  unfold visit
  split
  · exact hs
  · split
    · next hvisiting =>
      have hcursor : s.register.walker.cursor < Config.slots := by
        simp only [Walker.visiting, Bool.and_eq_true, decide_eq_true_eq] at hvisiting
        exact hvisiting.2
      split
      · next t ht =>
        exact slotsKept_of_slotData (slotData_advanceCursor _) (h _ _ _ hcursor ht)
      · exact hs
    · exact hs

/-! ### Commands -/

theorem nextCanonical_exec (i : Instr) {s : State} (hs : s.slotsKept) : NextCanonical (exec i s) := by
  cases i
  all_goals dsimp only [exec]
  case powerOnReset straps retainOk => exact nextCanonical_next (keepsSlots_powerOn straps retainOk s hs)
  case resetNLow => exact nextCanonical_next (slotsKept_of_slotData rfl hs)
  case secondEvent b => exact nextCanonical_event hs (keepsSlots_tick b s hs)
  case pushAssert | pushRelease | alarmAssert | alarmRelease =>
    refine nextCanonical_event_of_slotData (slotsKept_of_slotData (slotData_withLines s _) hs) ?_
    simp
  case setTime => exact nextCanonical_request hs (keepsSlots_serveSetTime _ _ _ _)
  case dayOpen => exact nextCanonical_request hs (keepsSlots_serveDayOpen _)
  case dayClose => exact nextCanonical_request hs (keepsSlots_serveDayClose _)
  case writePupil => exact nextCanonical_request hs (keepsSlots_serveWritePupil _ _)
  case clearPupil => exact nextCanonical_request hs (keepsSlots_serveClearPupil _ _ _)
  case mark => exact nextCanonical_request hs (keepsSlots_serveMark _ _)
  case readChanges => exact nextCanonical_request hs (keepsSlots_serveReadChanges _)
  case signIn => exact nextCanonical_request hs (keepsSlots_serveSignIn _ _)
  case signOut => exact nextCanonical_request hs (keepsSlots_serveSignOut _ _)
  case routeHold => exact nextCanonical_request hs (keepsSlots_serveRouteHold _ _)
  case notice => exact nextCanonical_request hs (keepsSlots_serveNotice _ _)
  case confirmNotice => exact nextCanonical_request hs (keepsSlots_serveConfirmNotice _ _ _)
  case termReset => exact nextCanonical_request hs (keepsSlots_serveTermReset _)
  case portPark => exact nextCanonical_request hs (keepsSlots_servePortPark _ _)
  case portCycle => exact nextCanonical_request hs (keepsSlots_servePortCycle _ _)
  case restartEffect =>
    refine nextCanonical_event hs ?_
    split
    · exact keepsSlots_restartEffect s hs
    · exact hs
  case openWalkVisit =>
    refine nextCanonical_visit hs fun w k t hk h => ?_
    split at h <;> cases h
    exact slotsKept_openVisit hs hk
  case closeWalkVisit =>
    refine nextCanonical_visit hs fun w k t _ h => ?_
    split at h <;> cases h
    exact keepsSlots_closeVisit _ s hs
  case sessionSweepVisit =>
    refine nextCanonical_visit hs fun w k t _ h => ?_
    split at h <;> cases h
    exact keepsSlots_sessionSweep _ _ _ s hs
  case routeSweepVisit =>
    refine nextCanonical_visit hs fun w k t _ h => ?_
    split at h <;> cases h
    exact keepsSlots_routeSweep _ _ s hs
  case groupWalkVisit =>
    refine nextCanonical_visit hs fun w k t _ h => ?_
    split at h <;> cases h
    exact keepsSlots_groupWalk _ _ s hs
  case openWalkComplete order =>
    refine nextCanonical_event hs ?_
    split
    · exact keepsSlots_completeOpen order s hs
    · exact hs
  case closeWalkComplete order =>
    refine nextCanonical_event hs ?_
    split
    · exact keepsSlots_completeClose order s hs
    · exact hs
  case swap =>
    refine nextCanonical_event hs ?_
    repeat' split
    · exact keepsSlots_takeSwap _ s hs
    all_goals exact hs
  case routeHoldExpiry route => exact nextCanonical_event hs (keepsSlots_expireHold route s hs)
  case alertStateReport => exact nextCanonical_event hs (keepsSlots_takeReport s hs)
  case latenessAccrual =>
    refine nextCanonical_event hs ?_
    split
    · exact keepsSlots_takeLateness _ _ (slotsKept_of_slotData (slotData_withWires _ _) hs)
    · exact hs
  case openMinutesAccrual =>
    refine nextCanonical_event hs ?_
    split
    · exact keepsSlots_takeOpenMinutes _ _ _ _ (slotsKept_of_slotData (slotData_popAccrual _ _) hs)
    · exact hs
  case fold =>
    refine nextCanonical_event hs ?_
    split
    · exact keepsSlots_takeFold _ _ _ _ _ _ (slotsKept_of_slotData (slotData_popAccrual _ _) hs)
    · exact hs
  case bellCountExpiry | pushLimitExpiry | recomputePassComplete | handoverTimeout | replyComplete =>
    refine nextCanonical_event_of_slotData hs ?_
    simp
  case walkComplete | raiseAlert | leaveUnexplained | callListAdd | rollBuildVisit
      | rollBuildComplete | presenceChange | frameHeaderFault | frameCheckFault
      | receiveGapTimeout | frameOverlap | unknownKindFrame | portCycleEnd | syncOctet =>
    refine nextCanonical_event_of_slotData hs ?_
    repeat' split
    all_goals simp
  case setReplyLimit | linkStatus | readFaults | clearFaults =>
    refine nextCanonical_request hs (keepsSlots_of_slotData fun s => ?_)
    simp [serveSetReplyLimit, serveLinkStatus, serveReadFaults, serveClearFaults]
  -- What is left are requests whose owners write no slot.
  all_goals exact nextCanonical_request hs (keepsSlots_of_slotData fun s => by simp)

/-- Settles O13, by cases on the command: each write to a table names a slot of it, found in the Pupil Table,
checked by its request or visited by the walker. -/
theorem everyStepKeepsSlotTablesCanonical : Obligations.EveryStepKeepsSlotTablesCanonical := by
  intro s t hpupils hcanonical hstep
  have hs : s.slotsKept := ⟨hpupils.1, hcanonical⟩
  unfold step at hstep
  split at hstep
  · cases hstep
    exact hcanonical
  · next i rest _ =>
    exact (nextCanonical_exec i (slotsKept_of_slotData (slotData_withPending s rest) hs) t hstep).2

end RegisterLaws

end Sys2Proof.Machine
end

section
/-! SUPPORT. GROUP-MARK and the completion of a walk (R90, R116 to R118). -/

namespace Sys2Proof.Machine

open Sys2Proof

namespace RegisterLaws

/-! ### What a GROUP-MARK asks for -/

theorem sessions_isEmpty_iff {x : SessionSet} : x.isEmpty = true ↔ x = ⟨false, false⟩ := by
  obtain ⟨am, pm⟩ := x
  simp [SessionSet.isEmpty]

/-- What a GROUP-MARK asks for stands in its fields, each of which names something (R90). -/
theorem groupContents_eq_some {r : GroupMarkReq} {c : GroupContents} :
    groupContents r = some c ↔ r.groups ≠ 0 ∧ r.cohorts ≠ 0 ∧ r.sessions ≠ ⟨false, false⟩
      ∧ ∃ m, r.mark = some m ∧ (m = .offsite ∨ m = .authorised)
        ∧ ⟨r.groups, r.cohorts, r.sessions, m⟩ = c := by
  have he : r.sessions.isEmpty = false ↔ r.sessions ≠ ⟨false, false⟩ := by
    rw [ne_eq, ← sessions_isEmpty_iff, Bool.not_eq_true]
  unfold groupContents
  split
  next hm => simp [hm, he, and_assoc]
  next hm => simp [hm, he, and_assoc]
  next hoff hauth =>
    refine iff_of_false (by simp) ?_
    rintro ⟨-, -, -, m, hm, rfl | rfl, -⟩
    · exact hoff hm
    · exact hauth hm

/-- A GROUP-MARK with no group, cohort or session, or of another mark, asks for nothing (R90). -/
theorem groupContents_eq_none {r : GroupMarkReq}
    (h : r.groups = 0 ∨ r.cohorts = 0 ∨ r.sessions = ⟨false, false⟩
      ∨ (r.mark ≠ some .offsite ∧ r.mark ≠ some .authorised)) : groupContents r = none := by
  rw [Option.eq_none_iff_forall_ne_some]
  intro c hc
  obtain ⟨hg, hk, hs, m, hm, hmark, -⟩ := groupContents_eq_some.1 hc
  obtain h | h | h | ⟨hoff, hauth⟩ := h
  · exact hg h
  · exact hk h
  · exact hs h
  · obtain rfl | rfl := hmark
    · exact hoff hm
    · exact hauth hm

/-! ### GROUP-MARK -/

section GroupMark

variable {s : State} {f : Frame} {r : GroupMarkReq} {c : GroupContents}

theorem exec_groupMark_of_ready (h : Ready s f .groupMark) :
    exec (.groupMark f r) s = .next (serveGroupMark f.port r (s.serving f .groupMark)) :=
  request_of_ready h _

theorem serveGroupMark_refused (p : PortId) (hc : groupContents r = none) :
    serveGroupMark p r s = refuse p .badField s := by
  rw [serveGroupMark, hc]

theorem serveGroupMark_of_contents (p : PortId) (hc : groupContents r = some c) :
    serveGroupMark p r s = gateOpen p (.groupMark r)
      (fun s => if s.register.walker.groupBusy then refuse p .busy s
        else answerOk p .empty (s.onRegister (joinGroup c (now s)))) s := by
  rw [serveGroupMark, hc]

/-- A GROUP-MARK in OPEN while one is owed is BUSY (R90). -/
theorem exec_groupMark_busy (h : Ready s f .groupMark) (hc : groupContents r = some c)
    (hday : s.day.state = .open) (hb : s.register.walker.groupBusy = true) :
    exec (.groupMark f r) s = .next (s.replied f .groupMark .busy false .empty) := by
  have hb' : (s.serving f .groupMark).register.walker.groupBusy = true := hb
  rw [exec_groupMark_of_ready h, serveGroupMark_of_contents _ hc,
    TimetableLaws.gateOpen_of_open (s := s.serving f .groupMark) _ _ _ hday, if_pos hb', refuse_serving]

/-- A GROUP-MARK in OPEN with none owed is answered OK and joins the queue (R90, R116). -/
theorem exec_groupMark_joins (h : Ready s f .groupMark) (hc : groupContents r = some c)
    (hday : s.day.state = .open) (hb : s.register.walker.groupBusy = false) :
    exec (.groupMark f r) s = .next (State.replied f .groupMark .ok false .empty
      (s.onRegister (joinGroup c (now s)))) := by
  have hb' : ¬ (s.serving f .groupMark).register.walker.groupBusy = true := by
    simp [State.serving, hb]
  have hcomm : (s.serving f .groupMark).onRegister (joinGroup c (now (s.serving f .groupMark)))
      = (s.onRegister (joinGroup c (now s))).serving f .groupMark := rfl
  rw [exec_groupMark_of_ready h, serveGroupMark_of_contents _ hc,
    TimetableLaws.gateOpen_of_open (s := s.serving f .groupMark) _ _ _ hday, if_neg hb', hcomm,
    answerOk_serving]

end GroupMark

/-- A walker with a walk in hand, or under the alarm, leaves the group mark waiting (R117). -/
theorem joinGroup_of_waits {r : DayRegister} (c : GroupContents) (due : Stamp)
    (h : r.walker.hand ≠ none ∨ r.walker.alarm = true) :
    joinGroup c due r = { r with
      walker := { r.walker with group := some ⟨c, due⟩ }
      group := ⟨.queued, some c, 0, 0, 0⟩ } :=
  takeItem_of_not (h.imp_right .inl)

theorem waiting_eq_nil_iff {w : Walker} :
    w.waiting = [] ↔ w.sessions = [] ∧ w.route = none ∧ w.group = none := by
  simp [Walker.waiting, Option.toList_eq_nil_iff]

/-- An IDLE walker with nothing waiting takes the group mark at once (R117). -/
theorem joinGroup_of_idle {r : DayRegister} (c : GroupContents) (due : Stamp)
    (hhand : r.walker.hand = none) (halarm : r.walker.alarm = false) (hw : r.walker.waiting = []) :
    joinGroup c due r = { r with
      walker := ⟨some (.item (.group ⟨c, due⟩)), 0, false, [], none, none⟩
      group := ⟨.running, some c, 0, 0, 0⟩ } := by
  obtain ⟨hsessions, hroute, -⟩ := waiting_eq_nil_iff.1 hw
  obtain ⟨-, -, htakes⟩ := takeItem_takes (i := .group ⟨c, due⟩)
    (r := { r with
      walker := { r.walker with group := some ⟨c, due⟩ }, group := ⟨.queued, some c, 0, 0, 0⟩ })
    hhand halarm (by simp [Walker.waiting, hsessions, hroute, firstBy])
  rw [joinGroup, htakes _ rfl]
  simp [hsessions, hroute, halarm]

/-! ### WALK_COMPLETE -/

/-- The walker's taking of an item touches the walker and the group mark's outcome alone. -/
theorem takeItem_frame (r : DayRegister) :
    takeItem r = { r with walker := (takeItem r).walker, group := (takeItem r).group } := by
  unfold takeItem
  split
  · split <;> rfl
  · rfl

theorem dropWalk_frame (r : DayRegister) :
    dropWalk r = { r with walker := (dropWalk r).walker, group := (dropWalk r).group } := by
  rw [dropWalk, takeItem_frame]

/-- The Day Register whose walk in hand has completed, before the next item is taken: the walker IDLE,
a group walk's outcome DONE (R118). -/
def completed (r : DayRegister) : WalkItem → DayRegister
  | .group _ => { r with
      walker := { r.walker with hand := none, cursor := 0 }
      group := { r.group with state := .done } }
  | .session _ | .route _ => { r with walker := { r.walker with hand := none, cursor := 0 } }

section Completed

variable (r : DayRegister) (i : WalkItem)

theorem completed_walker : (completed r i).walker = { r.walker with hand := none, cursor := 0 } := by
  cases i <;> rfl

theorem completed_of_group {g : GroupItem} (h : i = .group g) :
    completed r i = { r with
      walker := { r.walker with hand := none, cursor := 0 }
      group := { r.group with state := .done } } := by
  subst h
  rfl

theorem completed_of_sweep (h : ∀ g, i ≠ .group g) :
    completed r i = { r with walker := { r.walker with hand := none, cursor := 0 } } := by
  cases i with
  | group g => exact absurd rfl (h g)
  | session _ => rfl
  | route _ => rfl

theorem completed_waiting : (completed r i).walker.waiting = r.walker.waiting := by
  rw [completed_walker]
  rfl

variable {r i}

theorem dropWalk_eq (h : r.walker.hand = some (.item i)) : dropWalk r = takeItem (completed r i) := by
  unfold dropWalk
  rw [h]
  cases i <;> rfl

/-- With nothing waiting, or under the alarm, the walker stays IDLE (R117). -/
theorem dropWalk_idle (h : r.walker.hand = some (.item i))
    (hn : r.walker.waiting = [] ∨ r.walker.alarm = true) : dropWalk r = completed r i := by
  rw [dropWalk_eq h]
  refine takeItem_of_not (.inr ?_)
  rw [completed_waiting, completed_walker]
  exact hn.symm

/-- Otherwise it takes the waiting item that goes first (R117). -/
theorem dropWalk_takes {j : WalkItem} (h : r.walker.hand = some (.item i))
    (hj : firstBy WalkItem.before r.walker.waiting = some j) (ha : r.walker.alarm = false) :
    TakesItem (completed r i) (dropWalk r) j := by
  rw [dropWalk_eq h]
  refine takeItem_takes ?_ ?_ ?_
  · rw [completed_walker]
  · rw [completed_walker]
    exact ha
  · rw [completed_waiting]
    exact hj

end Completed

/-- What is taken does not hang on the hand and the cursor the walker had before. -/
theorem takesItem_of_idle {r q : DayRegister} {j : WalkItem}
    (h : TakesItem { r with walker := { r.walker with hand := none, cursor := 0 } } q j) :
    TakesItem r q j :=
  h

/-- WALK_COMPLETE before the last visit does nothing. -/
theorem exec_walkComplete_early {s : State} {i : WalkItem} (h : s.lines.resetN = true)
    (hi : s.register.walker.hand = some (.item i)) (hc : s.register.walker.cursor ≠ 2048) :
    exec .walkComplete s = .next s := by
  change execWalkComplete s = _
  rw [execWalkComplete, event_awake h, hi]
  exact congrArg _ (if_neg hc)

/-- WALK_COMPLETE after it drops the walk in hand (R118). -/
theorem exec_walkComplete_drops {s : State} {i : WalkItem} (h : s.lines.resetN = true)
    (hi : s.register.walker.hand = some (.item i)) (hc : s.register.walker.cursor = 2048) :
    exec .walkComplete s = .next (s.onRegister dropWalk) := by
  change execWalkComplete s = _
  rw [execWalkComplete, event_awake h, hi]
  exact congrArg _ (if_pos hc)

/-- Settles O42: a GROUP-MARK by its contents, the day state and what the walker owes; the end of a walk by
whether an item waits. -/
theorem groupMarksQueueAndWalksComplete : Obligations.GroupMarksQueueAndWalksComplete := by
  refine ⟨BellLaws.theFirstItemIsTaken, fun r => ⟨groupContents_eq_none, fun m hg hc hs hr hm =>
    groupContents_eq_some.2 ⟨hg, hc, hs, m, hr, hm, rfl⟩⟩, fun s f r h => ⟨fun hbad => ?_,
    fun c hc => ⟨fun hday => ?_, fun hday => ?_, exec_groupMark_busy h hc, fun hday hb =>
      ⟨fun hwaits => ?_, fun hhand halarm hw => ?_⟩⟩⟩, fun s i h hi =>
    ⟨exec_walkComplete_early h hi, fun hcursor => ⟨_, exec_walkComplete_drops h hi hcursor,
      ?_, fun hn => ?_, fun j hj ha => ?_⟩⟩⟩
  · rw [exec_groupMark_of_ready h, serveGroupMark_refused _ hbad, refuse_serving]
  · rw [exec_groupMark_of_ready h, serveGroupMark_of_contents _ hc,
      TimetableLaws.gateOpen_of_shut (s := s.serving f .groupMark) _ _ _ hday, refuse_serving]
  · rw [exec_groupMark_of_ready h, serveGroupMark_of_contents _ hc,
      TimetableLaws.gateOpen_of_opening (s := s.serving f .groupMark) _ _ _ hday]
    rfl
  · rw [exec_groupMark_joins h hc hday hb, State.onRegister, joinGroup_of_waits c _ hwaits]
  · rw [exec_groupMark_joins h hc hday hb, State.onRegister, joinGroup_of_idle c _ hhand halarm hw]
  · exact congrArg (fun q => { s with register := q }) (dropWalk_frame s.register)
  · rw [State.onRegister, dropWalk_idle hi hn]
    refine ⟨completed_walker _ _, fun g hg => ?_, fun hg => ?_⟩
    · rw [completed_of_group _ _ hg]
    · rw [completed_of_sweep _ _ hg]
  · have ht := dropWalk_takes hi hj ha
    refine ⟨fun g hg => ?_, fun hg => ?_⟩
    · rw [completed_of_group _ _ hg] at ht
      exact ht
    · rw [completed_of_sweep _ _ hg] at ht
      exact takesItem_of_idle ht

end RegisterLaws
end Sys2Proof.Machine
end

section
/-! SUPPORT. The rounds of the Day Register: one mark proposed by one source, with one stamp, for sessions
of one slot, as each visit of a walk does (R82 to R85, R91 to R93, R96, R97, R119, R120). What a round
leaves is said once, for the sessions whose mark it changed, and composed session by session. -/

namespace Sys2Proof.Machine

open Sys2Proof

namespace RegisterLaws

/-- What a round proposes for each of its sessions. -/
structure Round where
  slot : Nat
  ref : PupilRef
  mark : Mark
  source : Source
  stamp : Stamp
  notice : Option NoticeMark

namespace Round

variable (r : Round)

def proposal (y : Session) : Proposal :=
  ⟨r.slot, y, r.mark, r.source, r.stamp, r.notice, false⟩

@[simp] theorem proposal_slot (y) : (r.proposal y).slot = r.slot := rfl
@[simp] theorem proposal_session (y) : (r.proposal y).session = y := rfl
@[simp] theorem proposal_source (y) : (r.proposal y).source = r.source := rfl
@[simp] theorem proposal_stamp (y) : (r.proposal y).stamp = r.stamp := rfl

/-- The unexplained-since an applied change of the round leaves (R84). -/
def since : Option Stamp :=
  if r.mark = .unexplained ∧ raisesAlert r.source = true then some r.stamp else none

/-- A session's fields once the round has changed its mark. -/
def changed (m : SessionMarks) : SessionMarks :=
  { m with
    mark := r.mark, lastSource := some r.source, lastChange := some r.stamp, since := r.since
    notice := if r.mark = .notified then r.notice else m.notice }

/-- The amendments of the round's changes (R92). -/
def amendments (s : State) (l : List Session) : List Amendment :=
  (l.filter fun y => markOf s r.slot y != .blank).map fun y =>
    ⟨r.slot, y, markOf s r.slot y, r.mark, r.source, r.stamp⟩

/-- What a change of one session tells the Message Unit (R84, R85). -/
def tells (s : State) (y : Session) : List ToMessages :=
  (if markOf s r.slot y = .unexplained then [.leave r.slot r.ref y r.mark] else [])
    ++ (if r.mark = .unexplained ∧ raisesAlert r.source = true then [.raise r.slot r.ref y] else [])

/-- The presence once the round has changed some sessions (R79). -/
def presence (old : Presence) (l : List Session) : Presence :=
  if l = [] then old else (presenceOf r.mark).getD old

/-- The returning flag then: a change to ON_SITE clears it (R79). -/
def returning (x : Presence) (old : Bool) (l : List Session) : Bool :=
  if l ≠ [] ∧ presenceOf r.mark = some .onSite ∧ x ≠ .onSite then false else old

variable (x : Presence) (l k : List Session)

theorem presence_append : r.presence (r.presence x l) k = r.presence x (l ++ k) := by
  unfold presence
  cases l with
  | nil => rfl
  | cons => cases k <;> cases presenceOf r.mark <;> rfl

theorem returning_append (old : Bool) :
    r.returning (r.presence x l) (r.returning x old l) k = r.returning x old (l ++ k) := by
  unfold returning presence
  cases l with
  | nil => simp
  | cons => cases hp : presenceOf r.mark <;> simp_all

/-- Of two changes of presence to one value the second is no change (R79). -/
theorem passed_append :
    ((if r.presence x l = x then [] else [⟨r.slot, r.presence x l⟩])
      ++ if r.presence x (l ++ k) = r.presence x l then [] else [⟨r.slot, r.presence x (l ++ k)⟩])
      = (if r.presence x (l ++ k) = x then [] else [⟨r.slot, r.presence x (l ++ k)⟩]
        : List PresencePass) := by
  unfold presence
  cases l with
  | nil => simp
  | cons => simp

end Round

/-- What a visit may change, but for the cursor: see `Visited`. -/
def onlyVisited (s t : State) : Prop :=
  t = { s with
    register := { s.register with
      records := t.register.records, amendments := t.register.amendments, lost := t.register.lost,
      group := t.register.group }
    wires := { s.wires with
      toMessages := t.wires.toMessages, toAccumulators := t.wires.toAccumulators,
      toRoll := t.wires.toRoll }
    link := { s.link with fault := t.link.fault, more := t.link.more } }

theorem onlyVisited.trans {s t u : State} (h : onlyVisited s t) (k : onlyVisited t u) :
    onlyVisited s u := by
  unfold onlyVisited at *
  refine k.trans ?_
  rw [h]

theorem onlyVisited_of_marksOnly {s t : State} (h : MarksOnly s t) : onlyVisited s t := by
  obtain ⟨_, _, _, _, _, _, _, _, _, _, _, _, _, _, _, _, _, _, _, _⟩ := h
  obtain ⟨_, _, _, _, _, _, ⟨_, _, _, _, _, _⟩, _, _, _, _, ⟨_, _, _, _⟩, ⟨_, _, _, _, _, _⟩, _,
    _⟩ := s
  obtain ⟨_, _, _, _, _, _, ⟨_, _, _, _, _, _⟩, _, _, _, _, ⟨_, _, _, _⟩, ⟨_, _, _, _, _, _⟩, _,
    _⟩ := t
  simp only at *
  subst_vars
  rfl

/-- What a round leaves that changed the marks of some sessions. -/
structure RoundTaken (r : Round) (l : List Session) (s t : State) : Prop where
  frame : onlyVisited s t
  wf : recordsWf t
  others : ∀ k, k ≠ r.slot → (recordAt s k).sameButGap (recordAt t k)
  taken : ∀ y ∈ l, (recordAt t r.slot).session y
    = { r.changed ((recordAt s r.slot).session y) with
        trailGap := ((recordAt t r.slot).session y).trailGap }
  left : ∀ y, y ∉ l → (recordAt t r.slot).session y
    = { (recordAt s r.slot).session y with
        trailGap := ((recordAt t r.slot).session y).trailGap }
  rest : recordAt t r.slot = { recordAt s r.slot with
    am := (recordAt t r.slot).am, pm := (recordAt t r.slot).pm
    presence := r.presence (recordAt s r.slot).presence l
    returning := r.returning (recordAt s r.slot).presence (recordAt s r.slot).returning l }
  trail : AmendmentsAppended (r.amendments s l) s t
  messages : t.wires.toMessages = s.wires.toMessages ++ l.flatMap (r.tells s)
  minutes : t.wires.toAccumulators
    = s.wires.toAccumulators ++ openMinutesOf s r.slot r.ref l r.stamp
  roll : t.wires.toRoll = s.wires.toRoll
    ++ if (recordAt t r.slot).presence = (recordAt s r.slot).presence then []
      else [⟨r.slot, (recordAt t r.slot).presence⟩]

namespace RoundTaken

variable {r : Round} {l k : List Session} {s t u : State}

theorem refl (w : recordsWf s) : RoundTaken r [] s s where
  frame := rfl
  wf := w
  others := fun _ _ => .refl _
  taken := fun y hy => absurd hy (by simp)
  left := fun _ _ => rfl
  rest := rfl
  trail := appended_nil_refl s
  messages := by simp
  minutes := by simp [openMinutesOf]
  roll := by simp

theorem markOf_left (h : RoundTaken r l s t) {y : Session} (hy : y ∉ l) :
    markOf t r.slot y = markOf s r.slot y := by
  rw [markOf, h.left y hy]; rfl

theorem since_left (h : RoundTaken r l s t) {y : Session} (hy : y ∉ l) :
    ((recordAt t r.slot).session y).since = ((recordAt s r.slot).session y).since := by
  rw [h.left y hy]

theorem presence_eq (h : RoundTaken r l s t) :
    (recordAt t r.slot).presence = r.presence (recordAt s r.slot).presence l := by
  rw [h.rest]

theorem clock_eq (h : RoundTaken r l s t) : t.clock = s.clock := by rw [h.frame]

theorem store_eq (h : RoundTaken r l s t) : t.store = s.store := by rw [h.frame]

theorem pupilAt_eq (h : RoundTaken r l s t) (c : Nat) : pupilAt t c = pupilAt s c := by
  rw [h.frame]; rfl

theorem now_eq (h : RoundTaken r l s t) : now t = now s := by rw [h.frame]; rfl

theorem closedFor_eq (h : RoundTaken r l s t) (p : Nat) (y : Session) :
    closedFor t p y = closedFor s p y := by
  rw [h.frame]; rfl

/-- What a later round over other sessions reads is as it was before this one. -/
theorem amendments_eq (h : RoundTaken r l s t) (hd : ∀ y ∈ k, y ∉ l) :
    r.amendments t k = r.amendments s k := by
  unfold Round.amendments
  rw [List.filter_congr fun y hy => by rw [h.markOf_left (hd y hy)]]
  refine List.map_congr_left fun y hy => ?_
  rw [h.markOf_left (hd y (List.mem_of_mem_filter hy))]

theorem tells_eq (h : RoundTaken r l s t) (hd : ∀ y ∈ k, y ∉ l) :
    k.flatMap (r.tells t) = k.flatMap (r.tells s) :=
  List.flatMap_congr fun y hy => by rw [Round.tells, Round.tells, h.markOf_left (hd y hy)]

theorem openMinutesOf_eq (h : RoundTaken r l s t) (hd : ∀ y ∈ k, y ∉ l) :
    openMinutesOf t r.slot r.ref k r.stamp = openMinutesOf s r.slot r.ref k r.stamp := by
  unfold openMinutesOf
  rw [List.filter_congr fun y hy => by rw [h.markOf_left (hd y hy)]]
  refine List.filterMap_congr fun y hy => ?_
  rw [h.since_left (hd y (List.mem_of_mem_filter hy))]

/-- Rounds over distinct sessions compose. -/
theorem trans (h : RoundTaken r l s t) (g : RoundTaken r k t u) (hd : ∀ y ∈ k, y ∉ l) :
    RoundTaken r (l ++ k) s u where
  frame := h.frame.trans g.frame
  wf := g.wf
  others := fun c hc => (h.others c hc).trans (g.others c hc)
  taken := fun y hy => by
    by_cases hk : y ∈ k
    · rw [g.taken y hk, h.left y (hd y hk)]
      rfl
    · rw [g.left y hk, h.taken y ((List.mem_append.1 hy).resolve_right hk)]
  left := fun y hy => by
    rw [List.mem_append, not_or] at hy
    rw [g.left y hy.2, h.left y hy.1]
  rest := by
    rw [g.rest, h.rest]
    simp only [r.presence_append, r.returning_append]
  trail := by
    have hsplit : r.amendments s (l ++ k) = r.amendments s l ++ r.amendments t k := by
      rw [h.amendments_eq hd]
      simp [Round.amendments]
    rw [hsplit]
    exact appendeds_append h.clock_eq h.store_eq h.trail g.trail
  messages := by
    rw [g.messages, h.messages, h.tells_eq hd, List.flatMap_append, List.append_assoc]
  minutes := by
    rw [g.minutes, h.minutes, h.openMinutesOf_eq hd, List.append_assoc]
    simp [openMinutesOf]
  roll := by
    rw [g.roll, h.roll, g.presence_eq, h.presence_eq, r.presence_append, List.append_assoc,
      r.passed_append]

end RoundTaken

/-! ### Deciding the proposals of a round -/

section Decided

variable {r : Round} {s : State} {y : Session} {p : Pupil}

/-- A session whose mark the round's proposal changes: it is one, the table applies the proposal, and the
proposal is no repeat (R81). -/
def Round.changes (r : Round) (s : State) (y : Session) : Bool :=
  markOf s r.slot y != .none && precedence (markOf s r.slot y) r.source r.mark == .apply
    && markOf s r.slot y != r.mark

theorem Round.changes_iff : r.changes s y = true ↔ markOf s r.slot y ≠ .none
    ∧ precedence (markOf s r.slot y) r.source r.mark = .apply ∧ markOf s r.slot y ≠ r.mark := by
  simp [Round.changes, and_assoc]

/-- What the round's proposal for a session is decided as (R81). -/
def Round.decision (r : Round) (s : State) (y : Session) : Decision :=
  if markOf s r.slot y = .none then .notScheduled
  else if precedence (markOf s r.slot y) r.source r.mark ≠ .apply then .held
  else if r.mark = markOf s r.slot y then .repeated
  else .applied

theorem RoundTaken.changes_left {l : List Session} {t : State} (h : RoundTaken r l s t) (hy : y ∉ l) :
    r.changes t y = r.changes s y := by
  rw [Round.changes, Round.changes, h.markOf_left hy]

theorem RoundTaken.decision_left {l : List Session} {t : State} (h : RoundTaken r l s t)
    (hy : y ∉ l) : r.decision t y = r.decision s y := by
  rw [Round.decision, Round.decision, h.markOf_left hy]

/-- No proposal is decided for a session that is none (R80). -/
theorem propose_of_unscheduled {q : Proposal}
    (h : pupilAt s q.slot = none ∨ markOf s q.slot q.session = .none) :
    propose q s = (s, .notScheduled) := by
  unfold propose
  split
  · rfl
  next pupil hp =>
    have hm := h.resolve_left (by simp [hp])
    exact if_pos hm

theorem propose_of_verdict {q : Proposal} (hp : pupilAt s q.slot = some p)
    (hm : markOf s q.slot q.session ≠ .none) :
    propose q s = match precedence (markOf s q.slot q.session) q.source q.mark with
      | .hold => (s, .held)
      | .conflict => (tellMessages (.conflict q.slot p.ref) s, .conflict)
      | .apply =>
        let m := (recordAt s q.slot).session q.session
        if appliedMark m q = markOf s q.slot q.session then
          (applyRepeat m q (appliedMark m q) s, .repeated)
        else (applyChange m q p.ref (appliedMark m q) s, .applied) := by
  rw [propose, hp]
  exact (if_neg hm).trans rfl

/-- Only a NOTICE conflicts (R81). -/
theorem precedence_of_not_apply {m mark : Mark} {x : Source} (hx : x ≠ .notice)
    (h : precedence m x mark ≠ .apply) : precedence m x mark = .hold := by
  cases m <;> cases x <;> simp_all [precedence]

theorem Round.appliedMark_eq (h : r.source ≠ .signin) (m : SessionMarks) :
    appliedMark m (r.proposal y) = r.mark :=
  if_neg fun hc => h hc.1

/-- A change of the round writes the fields a round's change writes. -/
theorem Round.changedMarks_eq (h : r.source ≠ .signin) (m : SessionMarks) :
    changedMarks m (r.proposal y) r.mark = r.changed m := by
  have hs : (r.source == .signin) = false := by simpa using h
  simp [changedMarks, Round.proposal, Round.changed, Round.since, h, hs]
  rfl

variable (w : recordsWf s) (hr : r.source ≠ .signin) (hp : pupilAt s r.slot = some p) (href : p.ref = r.ref)

include w hr in
/-- An applied change of one session is a round of that session. -/
theorem roundTaken_applyChange : RoundTaken r [y] s
    (applyChange ((recordAt s r.slot).session y) (r.proposal y) r.ref r.mark s) := by
  obtain ⟨hmarks, hwf, hothers, hrec, htrail, hwires⟩ := applyChange_all w (r.proposal y) r.ref r.mark
  dsimp only [Round.proposal_slot, Round.proposal_session, Round.proposal_source,
    Round.proposal_stamp] at hmarks hwf hothers hrec htrail hwires ⊢
  rw [r.changedMarks_eq hr] at hrec
  generalize applyChange ((recordAt s r.slot).session y) (r.proposal y) r.ref r.mark s = t at *
  have hm : ((recordAt s r.slot).session y).mark = markOf s r.slot y := rfl
  simp only [hm] at htrail hwires
  have hpresence : (recordAt t r.slot).presence = (presenceOf r.mark).getD (recordAt s r.slot).presence :=
    hrec.presence
  refine ⟨onlyVisited_of_marksOnly hmarks, hwf, hothers, fun x hx => ?_, fun x hx => ?_, ?_, ?_, ?_, ?_,
    ?_⟩
  · obtain rfl := List.mem_singleton.1 hx
    refine (hrec.session x).trans ?_
    cases x <;> rfl
  · rw [List.mem_singleton] at hx
    refine (hrec.session x).trans ?_
    rw [← RegisterRecord.session_setSession_ne (recordAt s r.slot)
      (r.changed ((recordAt s r.slot).session y)) hx]
    cases x <;> rfl
  · rw [hrec]
    simp only [Round.presence, Round.returning, List.cons_ne_nil, ne_eq, not_false_eq_true, true_and,
      ↓reduceIte]
    cases y <;> rfl
  · by_cases hb : markOf s r.slot y = .blank <;> simpa [Round.amendments, hb] using htrail
  · by_cases ha : r.mark = .unexplained ∧ raisesAlert r.source = true <;>
      simp [hwires, Round.tells, ha]
  · rw [hwires]
    by_cases hu : markOf s r.slot y = .unexplained <;>
      cases hs : ((recordAt s r.slot).session y).since <;> simp [openMinutesOf, hu, hs]
  · rw [hwires, hpresence]
    cases presenceOf r.mark with
    | none => simp
    | some x =>
      by_cases hx : (recordAt s r.slot).presence = x
      · simp [hx]
      · simp [hx, Ne.symm hx]

include hr hp in
/-- The decision of a round's proposal for a session that is one (R81). -/
theorem propose_proposal (hnone : markOf s r.slot y ≠ .none) :
    propose (r.proposal y) s = match precedence (markOf s r.slot y) r.source r.mark with
      | .hold => (s, .held)
      | .conflict => (tellMessages (.conflict r.slot p.ref) s, .conflict)
      | .apply =>
        if r.mark = markOf s r.slot y then
          (applyRepeat ((recordAt s r.slot).session y) (r.proposal y) r.mark s, .repeated)
        else
          (applyChange ((recordAt s r.slot).session y) (r.proposal y) p.ref r.mark s, .applied) := by
  have h := propose_of_verdict (q := r.proposal y) hp hnone
  dsimp only at h
  rw [r.appliedMark_eq hr] at h
  exact h

include w hr hp href in
/-- A proposal of a round that changes its session's mark is applied. -/
theorem propose_of_changes (hc : r.changes s y = true) :
    RoundTaken r [y] s (propose (r.proposal y) s).1 ∧ (propose (r.proposal y) s).2 = .applied := by
  obtain ⟨hnone, hverdict, hnew⟩ := r.changes_iff.1 hc
  have he : propose (r.proposal y) s
      = (applyChange ((recordAt s r.slot).session y) (r.proposal y) r.ref r.mark s, .applied) := by
    rw [propose_proposal hr hp hnone, hverdict, if_neg (Ne.symm hnew), href]
  rw [he]
  exact ⟨roundTaken_applyChange w hr, rfl⟩

include hr hp in
/-- A proposal of a round that does not is held, a repeat, or not scheduled, and changes nothing. -/
theorem propose_of_not_changes (hsource : r.source ≠ .notice)
    (hmark : r.mark = .notified → precedence .notified r.source .notified ≠ .apply)
    (hc : r.changes s y = false) : propose (r.proposal y) s = (s, r.decision s y) := by
  by_cases hnone : markOf s r.slot y = .none
  · rw [propose_of_unscheduled (q := r.proposal y) (.inr hnone), Round.decision, if_pos hnone]
  rw [propose_proposal hr hp hnone, Round.decision, if_neg hnone]
  by_cases hv : precedence (markOf s r.slot y) r.source r.mark = .apply
  · have hsame : r.mark = markOf s r.slot y := by
      by_contra hne
      exact absurd (r.changes_iff.2 ⟨hnone, hv, Ne.symm hne⟩) (by simp [hc])
    rw [if_neg (not_not.2 hv), if_pos hsame, hv]
    dsimp only
    rw [if_pos hsame, applyRepeat, if_neg fun hn => hmark hn ?_]
    rwa [← hsame, hn] at hv
  · rw [if_pos hv, precedence_of_not_apply hsource hv]

include w hr hp href in
/-- A proposal of a round is a round of its session, if it changes it. -/
theorem roundTaken_propose (hsource : r.source ≠ .notice)
    (hmark : r.mark = .notified → precedence .notified r.source .notified ≠ .apply) :
    RoundTaken r (if r.changes s y then [y] else []) s (propose (r.proposal y) s).1
      ∧ (propose (r.proposal y) s).2 = r.decision s y := by
  cases hc : r.changes s y with
  | false =>
    rw [propose_of_not_changes hr hp hsource hmark hc]
    exact ⟨.refl w, rfl⟩
  | true =>
    obtain ⟨h, hd⟩ := propose_of_changes w hr hp href hc
    obtain ⟨hnone, hverdict, hnew⟩ := r.changes_iff.1 hc
    refine ⟨h, hd.trans ?_⟩
    rw [Round.decision, if_neg hnone, if_neg (not_not.2 hverdict), if_neg (Ne.symm hnew)]

end Decided

/-! ### A round over a list of sessions -/

/-- A fold over distinct things, by what holds of those already met. -/
theorem foldl_met {α β : Type} {P : List α → β → Prop} {f : β → α → β} {l : List α} {b : β}
    (hl : l.Nodup) (h0 : P [] b)
    (hs : ∀ met y t, y ∈ l → y ∉ met → P met t → P (met ++ [y]) (f t y)) : P l (l.foldl f b) := by
  induction l using List.reverseRecOn with
  | nil => exact h0
  | append_singleton l y ih =>
    rw [List.foldl_append]
    obtain ⟨hnodup, -, hdisjoint⟩ := List.nodup_append.1 hl
    refine hs l y _ (by simp) (fun hy => hdisjoint y hy y (by simp) rfl)
      (ih hnodup fun met x t hx hm hp => hs met x t (by simp [hx]) hm hp)

theorem sessions_list_nodup (x : SessionSet) : x.list.Nodup := by
  obtain ⟨am, pm⟩ := x
  cases am <;> cases pm <;> decide

/-- A round over the sessions that pass a test, carried on by one session more. -/
theorem RoundTaken.snoc {r : Round} {s t u : State} {met : List Session} {y : Session}
    {test : Session → Bool} (h : RoundTaken r (met.filter test) s t) (hy : y ∉ met)
    (g : RoundTaken r (if test y then [y] else []) t u) :
    RoundTaken r ((met ++ [y]).filter test) s u := by
  have hstep := h.trans g fun x hx => by
    cases htest : test y with
    | false => simp [htest] at hx
    | true =>
      simp only [htest, ↓reduceIte, List.mem_singleton] at hx
      exact fun hf => hy (hx ▸ List.mem_of_mem_filter hf)
  rw [List.filter_append]
  simpa [List.filter_cons] using hstep

/-- A fold whose steps are rounds of the sessions that pass a test is the round of those; the outcome of a
group mark stands where no step counts one. -/
theorem roundTaken_foldl {r : Round} {s : State} {f : State → Session → State} {l : List Session}
    (test : Session → Bool) (hl : l.Nodup) (w : recordsWf s)
    (hs : ∀ met y t, y ∉ met → RoundTaken r met s t →
      RoundTaken r (if test y then [y] else []) t (f t y)
        ∧ (f t y).register.group = t.register.group) :
    RoundTaken r (l.filter test) s (l.foldl f s)
      ∧ (l.foldl f s).register.group = s.register.group :=
  foldl_met (P := fun met t => RoundTaken r (met.filter test) s t
      ∧ t.register.group = s.register.group) hl ⟨.refl w, rfl⟩
    fun _ y t _ hm ⟨h, hg⟩ =>
      have ⟨hstep, hgroup⟩ := hs _ y t (fun hf => hm (List.mem_of_mem_filter hf)) h
      ⟨h.snoc hm hstep, hgroup.trans hg⟩

theorem propose_group {s : State} (w : recordsWf s) (q : Proposal) :
    (propose q s).1.register.group = s.register.group :=
  (propose_spec w q).1.group

/-! ### What a round gives an obligation -/

section Visits

variable {r : Round} {l : List Session} {s t u : State}

/-- A state that reads as another where a walk visits. -/
theorem RoundTaken.marksTaken (h : RoundTaken r l s t) (hn : r.notice = none)
    (hregister : u.register.records = t.register.records)
    (hamendments : u.register.amendments = t.register.amendments)
    (hlost : u.register.lost = t.register.lost) (hlink : u.link = t.link) :
    MarksTaken s u r.slot l r.mark r.source r.stamp r.since := by
  have hrec : ∀ k, recordAt u k = recordAt t k := recordAt_of_records hregister
  refine ⟨fun y hy => ?_, fun k hk => ?_, ?_⟩
  · rw [hrec, h.taken y hy, Round.changed, hn]
  · rw [hrec]
    exact h.others k hk
  · exact appendeds_congr (appended_nil_refl s) rfl rfl
      ⟨hamendments, hlost, hlink, fun k y => by rw [hrec]⟩ h.trail

/-- A round whose mark makes no presence leaves all of the slot's record but its sessions. -/
theorem RoundTaken.rest_eq (h : RoundTaken r l s t) (hl : l = [] ∨ presenceOf r.mark = none) :
    recordAt t r.slot
      = { recordAt s r.slot with am := (recordAt t r.slot).am, pm := (recordAt t r.slot).pm } := by
  rw [h.rest]
  rcases hl with rfl | hp
  · rfl
  · simp [Round.presence, Round.returning, hp]

/-- Such a round passes nothing to the Site Roll. -/
theorem RoundTaken.roll_eq (h : RoundTaken r l s t) (hl : l = [] ∨ presenceOf r.mark = none) :
    t.wires.toRoll = s.wires.toRoll := by
  have hp : (recordAt t r.slot).presence = (recordAt s r.slot).presence := by rw [h.rest_eq hl]
  rw [h.roll, if_pos hp, List.append_nil]

/-- The visit of the walk in hand, which is not paused, takes its effect at the cursor (R118). -/
theorem visit_eq {effect : Walk → Nat → State → Option State} {walk : Walk} {c : Nat}
    (hhand : s.register.walker.hand = some walk) (hp : s.register.walker.paused = false)
    (hcursor : s.register.walker.cursor = c) (hc : c < 2048) (he : effect walk c s = some t) :
    visit effect s = advanceCursor t := by
  have hv : s.register.walker.visiting = true := by
    simp [Walker.visiting, hhand, hp, hcursor, hc, Config.slots]
  rw [visit, hhand]
  dsimp only
  rw [if_pos hv, hcursor, he]

/-- A paused walk makes no visit (R122). -/
theorem visit_paused {effect : Walk → Nat → State → Option State}
    (hp : s.register.walker.paused = true) : visit effect s = s := by
  have hv : s.register.walker.visiting = false := by simp [Walker.visiting, hp]
  unfold visit
  split
  · rfl
  · rw [if_neg (by simp [hv])]

theorem visited_advanceCursor {c : Nat} (h : onlyVisited s t) (hc : s.register.walker.cursor = c) :
    Visited s (advanceCursor t) c := by
  subst hc
  unfold onlyVisited at h
  rw [h]
  rfl

end Visits

end RegisterLaws
end Sys2Proof.Machine
end

section
/-! SUPPORT. The visits of the session sweep, the route sweep and the group walk (R91, R118 to R122). -/

namespace Sys2Proof.Machine

open Sys2Proof

namespace RegisterLaws

variable {s : State} {c : Nat} {p : Pupil}

/-! ### Sweep rounds -/

theorem sessions_list_eq (x : SessionSet) : x.list = [Session.am, .pm].filter x.has := by
  obtain ⟨am, pm⟩ := x
  cases am <;> cases pm <;> rfl

/-- The round of a sweep at a slot (R119, R120). -/
def sweepRound (s : State) (c : Nat) (ref : PupilRef) : Round :=
  ⟨c, ref, .unexplained, .sweep, now s, none⟩

theorem sweepable_iff {m : Mark} : sweepable m = true ↔ m = .blank ∨ m = .notSeen := by
  simp [sweepable]

/-- A sweep changes the marks it proposes over, and no others (R81). -/
theorem changes_sweepRound (ref : PupilRef) (y : Session) :
    (sweepRound s c ref).changes s y = sweepable (markOf s c y) := by
  unfold Round.changes
  dsimp only [sweepRound]
  cases markOf s c y <;> rfl

theorem roundTaken_sweep {ref : PupilRef} {met : List Session} {t : State} {y : Session}
    (hp : pupilAt s c = some p) (href : p.ref = ref) (h : RoundTaken (sweepRound s c ref) met s t)
    (hy : y ∉ met) :
    RoundTaken (sweepRound s c ref) (if sweepable (markOf s c y) then [y] else []) t
      (propose (sweepProposal t c y) t).1 := by
  have hq : sweepProposal t c y = (sweepRound s c ref).proposal y := by
    rw [sweepProposal, h.now_eq]
    rfl
  have hround := (roundTaken_propose (r := sweepRound s c ref) (y := y) h.wf (by simp [sweepRound])
    ((h.pupilAt_eq c).trans hp) href (by simp [sweepRound]) (by simp [sweepRound])).1
  rw [h.changes_left hy, changes_sweepRound] at hround
  rw [hq]
  exact hround

theorem sweepable_ne_unexplained {m : Mark} (h : sweepable m = true) : m ≠ .unexplained := by
  rintro rfl
  cases h

/-- No session that was not UNEXPLAINED has open minutes (R85). -/
theorem openMinutesOf_eq_nil {ref : PupilRef} {l : List Session} {stamp : Stamp}
    (hl : ∀ y ∈ l, markOf s c y ≠ .unexplained) : openMinutesOf s c ref l stamp = [] := by
  rw [openMinutesOf, List.filter_eq_nil_iff.2 fun y hy => by simp [hl y hy], List.filterMap_nil]

/-- A sweep tells of the sessions it swept with an alert each (R84). -/
theorem tells_sweepRound {ref : PupilRef} {l : List Session}
    (hl : ∀ y ∈ l, markOf s c y ≠ .unexplained) :
    l.flatMap ((sweepRound s c ref).tells s) = l.map fun y => .raise c ref y := by
  rw [List.map_eq_flatMap]
  refine List.flatMap_congr fun y hy => ?_
  have hslot : (sweepRound s c ref).slot = c := rfl
  rw [Round.tells, hslot, if_neg (hl y hy)]
  rfl

/-- What a sweep that swept some sessions of a slot gives its visit. -/
theorem sweep_visited {ref : PupilRef} {l : List Session} {t : State}
    (hcursor : s.register.walker.cursor = c) (h : RoundTaken (sweepRound s c ref) l s t)
    (hgroup : t.register.group = s.register.group)
    (hl : ∀ y ∈ l, markOf s c y ≠ .unexplained) :
    let u := advanceCursor t
    Visited s u c ∧ u.register.group = s.register.group
      ∧ recordAt u c = { recordAt s c with am := (recordAt u c).am, pm := (recordAt u c).pm }
      ∧ MarksTaken s u c l .unexplained .sweep (now s) (some (now s))
      ∧ (∀ y, y ∉ l → (recordAt u c).session y
          = { (recordAt s c).session y with trailGap := ((recordAt u c).session y).trailGap })
      ∧ u.wires = { s.wires with
          toMessages := s.wires.toMessages ++ l.map fun y => .raise c ref y } := by
  dsimp only
  refine ⟨visited_advanceCursor h.frame hcursor, hgroup, h.rest_eq (.inr rfl),
    h.marksTaken (u := advanceCursor t) rfl rfl rfl rfl rfl, h.left, ?_⟩
  have hm := h.messages
  have ha := h.minutes
  have hr := h.roll_eq (.inr rfl)
  rw [tells_sweepRound hl] at hm
  rw [openMinutesOf_eq_nil (c := (sweepRound s c ref).slot) hl, List.append_nil] at ha
  have hw : (advanceCursor t).wires = { s.wires with
      toMessages := t.wires.toMessages, toAccumulators := t.wires.toAccumulators,
      toRoll := t.wires.toRoll } := by
    rw [h.frame]
    rfl
  rw [hw, hm, ha, hr]

/-! ### The session sweep -/

/-- Where a session sweep proposes (R119). -/
def sessionSwept (s : State) (plan : Nat) (y : Session) (c : Nat) (p : Pupil) : Prop :=
  pupilAt s c = some p ∧ cohortPlan s p.cohort = some plan ∧ routeHeld s p.route = false
    ∧ (markOf s c y = .blank ∨ markOf s c y = .notSeen)

theorem sessionSweep_acts {plan : Nat} {y : Session} (h : sessionSwept s plan y c p) :
    sessionSweep plan y c s = (propose (sweepProposal s c y) s).1 := by
  obtain ⟨hp, hplan, hroute, hmark⟩ := h
  rw [sessionSweep, hp]
  exact if_pos ⟨hplan, hroute, sweepable_iff.2 hmark⟩

theorem sessionSweep_rests {plan : Nat} {y : Session} (h : ∀ p, ¬ sessionSwept s plan y c p) :
    sessionSweep plan y c s = s := by
  unfold sessionSweep
  split
  · rfl
  next p hp =>
    refine if_neg fun ⟨hplan, hroute, hmark⟩ => h p ⟨hp, hplan, hroute, sweepable_iff.1 hmark⟩

/-! ### The route sweep -/

/-- Where a route sweep proposes (R120). -/
def routeSwept (s : State) (routes : RouteSet) (c : Nat) (p : Pupil) (today : PlanToday) : Prop :=
  pupilAt s c = some p ∧ planTodayOf s p.cohort = some today ∧ p.route ≠ 0
    ∧ routes.getLsbD p.route = true ∧ routeHeld s p.route = false

theorem routeSweep_acts {routes : RouteSet} {today : PlanToday} (h : routeSwept s routes c p today) :
    routeSweep routes c s = today.sessions.list.foldl (routeSweepSession today.plan c) s := by
  obtain ⟨hp, htoday, hroute⟩ := h
  rw [routeSweep, hp]
  dsimp only
  rw [htoday]
  exact if_pos hroute

theorem routeSweep_rests {routes : RouteSet} (h : ∀ p today, ¬ routeSwept s routes c p today) :
    routeSweep routes c s = s := by
  unfold routeSweep
  split
  · rfl
  next p hp =>
    split
    · rfl
    next today htoday => exact if_neg fun hroute => h p today ⟨hp, htoday, hroute⟩

/-- The sessions a route sweep sweeps at a slot, AM before PM (R120). -/
def routeSessions (s : State) (c : Nat) (today : PlanToday) : List Session :=
  [Session.am, .pm].filter fun y => today.sessions.has y && closedFor s today.plan y
    && (markOf s c y == .blank || markOf s c y == .notSeen)

theorem roundTaken_routeSweep {routes : RouteSet} {today : PlanToday}
    (h : routeSwept s routes c p today) (w : recordsWf s) :
    RoundTaken (sweepRound s c p.ref) (routeSessions s c today) s (routeSweep routes c s)
      ∧ (routeSweep routes c s).register.group = s.register.group := by
  have hl : routeSessions s c today = today.sessions.list.filter fun y =>
      closedFor s today.plan y && sweepable (markOf s c y) := by
    rw [sessions_list_eq, List.filter_filter]
    exact List.filter_congr fun y _ => by rw [Bool.and_assoc, Bool.and_comm (_ && _)]; rfl
  rw [hl, routeSweep_acts h]
  refine roundTaken_foldl _ (sessions_list_nodup _) w fun met y t hmet ht => ?_
  have hmark : markOf t c y = markOf s c y := ht.markOf_left hmet
  rw [routeSweepSession, ht.closedFor_eq, hmark]
  cases hclosed : closedFor s today.plan y with
  | false => exact ⟨.refl ht.wf, rfl⟩
  | true =>
    have hround := roundTaken_sweep h.1 rfl ht hmet
    cases hsweep : sweepable (markOf s c y) with
    | false => exact ⟨.refl ht.wf, rfl⟩
    | true =>
      refine ⟨?_, propose_group ht.wf _⟩
      simpa [hsweep] using hround

/-! ### The group walk -/

/-- Where a group walk proposes (R91). -/
def groupMarked (s : State) (g : GroupContents) (c : Nat) (p : Pupil) : Prop :=
  pupilAt s c = some p ∧ p.groups &&& g.groups ≠ 0 ∧ g.cohorts.getLsbD p.cohort = true

theorem groupWalk_acts {g : GroupContents} (h : groupMarked s g c p) :
    groupWalk g c s = g.sessions.list.foldl (groupSession g.mark c) s := by
  obtain ⟨hp, hgroup⟩ := h
  rw [groupWalk, hp]
  exact if_pos hgroup

theorem groupWalk_rests {g : GroupContents} (h : ∀ p, ¬ groupMarked s g c p) :
    groupWalk g c s = s := by
  unfold groupWalk
  split
  · rfl
  next p hp => exact if_neg fun hgroup => h p ⟨hp, hgroup⟩

/-- The round of a group walk at a slot (R91). -/
def groupRound (s : State) (c : Nat) (ref : PupilRef) (mark : Mark) : Round :=
  ⟨c, ref, mark, .group, now s, none⟩

/-- The outcome record once the decisions of some sessions are counted (R91). -/
def counted (g : GroupOutcome) (decision : Session → Decision) (l : List Session) : GroupOutcome :=
  { g with
    applied := g.applied + l.countP fun y => decision y == .applied || decision y == .repeated
    held := g.held + l.countP fun y => decision y == .held || decision y == .conflict
    skipped := g.skipped + l.countP fun y => decision y == .notScheduled }

theorem count_counted (g : GroupOutcome) (decision : Session → Decision) (l : List Session)
    (y : Session) :
    (counted g decision l).count (decision y) = counted g decision (l ++ [y]) := by
  cases hd : decision y <;> simp [counted, GroupOutcome.count, hd, Nat.add_assoc]

/-- The outcome record of a group walk does not touch the round. -/
theorem RoundTaken.onGroup {r : Round} {l : List Session} {t : State} (h : RoundTaken r l s t)
    (f : GroupOutcome → GroupOutcome) :
    RoundTaken r l s (t.onRegister fun q => { q with group := f q.group }) where
  frame := h.frame.trans (t := t) rfl
  wf := recordsWf_of_records (s := t) rfl h.wf
  others := h.others
  taken := h.taken
  left := h.left
  rest := h.rest
  trail := appendeds_congr (t' := t) (appended_nil_refl s) rfl rfl
    ⟨rfl, rfl, rfl, fun _ _ => rfl⟩ h.trail
  messages := h.messages
  minutes := h.minutes
  roll := h.roll

theorem roundTaken_groupSession {ref : PupilRef} {mark : Mark} {met : List Session} {t : State}
    {y : Session} (hp : pupilAt s c = some p) (href : p.ref = ref)
    (h : RoundTaken (groupRound s c ref mark) met s t) (hy : y ∉ met) :
    RoundTaken (groupRound s c ref mark)
        (if (groupRound s c ref mark).changes s y then [y] else []) t (groupSession mark c t y)
      ∧ (groupSession mark c t y).register.group
        = t.register.group.count ((groupRound s c ref mark).decision s y) := by
  have hq : plainProposal c y mark .group (now t) = (groupRound s c ref mark).proposal y := by
    rw [h.now_eq]
    rfl
  obtain ⟨hround, hdecision⟩ := roundTaken_propose (r := groupRound s c ref mark) (y := y) h.wf
    (by simp [groupRound]) ((h.pupilAt_eq c).trans hp) href (by simp [groupRound])
    fun _ => by simp [groupRound, precedence]
  have hgroup := (propose_spec h.wf ((groupRound s c ref mark).proposal y)).1.group
  rw [h.changes_left hy] at hround
  rw [h.decision_left hy] at hdecision
  rw [groupSession, hq]
  refine ⟨hround.onGroup fun g => g.count _, ?_⟩
  rw [← hgroup, ← hdecision]
  rfl

theorem groupWalk_spec {g : GroupContents} (h : groupMarked s g c p) (w : recordsWf s) :
    RoundTaken (groupRound s c p.ref g.mark)
        (g.sessions.list.filter ((groupRound s c p.ref g.mark).changes s)) s (groupWalk g c s)
      ∧ (groupWalk g c s).register.group = counted s.register.group
          ((groupRound s c p.ref g.mark).decision s) g.sessions.list := by
  rw [groupWalk_acts h]
  have hfold := foldl_met (l := g.sessions.list) (f := groupSession g.mark c) (b := s)
    (P := fun met t => RoundTaken (groupRound s c p.ref g.mark)
        (met.filter ((groupRound s c p.ref g.mark).changes s)) s t
      ∧ t.register.group
        = counted s.register.group ((groupRound s c p.ref g.mark).decision s) met)
    (sessions_list_nodup _) ⟨.refl w, rfl⟩ fun met y t _ hmet ⟨ht, hg⟩ => ?_
  · exact hfold
  have hmet' : y ∉ met.filter ((groupRound s c p.ref g.mark).changes s) :=
    fun hf => hmet (List.mem_of_mem_filter hf)
  obtain ⟨hround, hgroup⟩ := roundTaken_groupSession h.1 rfl ht hmet'
  exact ⟨ht.snoc hmet hround, by rw [hgroup, hg, count_counted]⟩

/-! ### The visits -/

theorem paused_item {w : Walker} {i : WalkItem} (h : w.hand = some (.item i)) :
    w.paused = w.alarm := by
  rw [Walker.paused, h]

section Exec

variable (hawake : s.lines.resetN = true) (halarm : s.register.walker.alarm = false)
  (hcursor : s.register.walker.cursor = c) (hc : c < 2048)

include hawake halarm hcursor hc

theorem exec_sessionSweepVisit {i : SessionItem}
    (hhand : s.register.walker.hand = some (.item (.session i))) :
    exec .sessionSweepVisit s = .next (advanceCursor (sessionSweep i.plan i.session c s)) :=
  (event_awake hawake _).trans
    (congrArg _ (visit_eq hhand ((paused_item hhand).trans halarm) hcursor hc rfl))

theorem exec_routeSweepVisit {i : RouteItem}
    (hhand : s.register.walker.hand = some (.item (.route i))) :
    exec .routeSweepVisit s = .next (advanceCursor (routeSweep i.routes c s)) :=
  (event_awake hawake _).trans
    (congrArg _ (visit_eq hhand ((paused_item hhand).trans halarm) hcursor hc rfl))

theorem exec_groupWalkVisit {i : GroupItem}
    (hhand : s.register.walker.hand = some (.item (.group i))) :
    exec .groupWalkVisit s = .next (advanceCursor (groupWalk i.contents c s)) :=
  (event_awake hawake _).trans
    (congrArg _ (visit_eq hhand ((paused_item hhand).trans halarm) hcursor hc rfl))

end Exec

/-- A visit of a paused walk is not made (R122). -/
theorem exec_visits_paused (hawake : s.lines.resetN = true)
    (hp : s.register.walker.paused = true) :
    exec .sessionSweepVisit s = .next s ∧ exec .routeSweepVisit s = .next s
      ∧ exec .groupWalkVisit s = .next s :=
  ⟨(event_awake hawake _).trans (congrArg _ (visit_paused hp)),
    (event_awake hawake _).trans (congrArg _ (visit_paused hp)),
    (event_awake hawake _).trans (congrArg _ (visit_paused hp))⟩

/-- A visit that leaves the slot moves the cursor alone. -/
theorem visited_advanceCursor_self (hcursor : s.register.walker.cursor = c) :
    Visited s (advanceCursor s) c :=
  visited_advanceCursor (t := s) rfl hcursor

/-! ### The group walk's count and messages -/

theorem counted_groupRound (g : GroupOutcome) (ref : PupilRef) (mark : Mark) (l : List Session) :
    counted g ((groupRound s c ref mark).decision s) l = { g with
      applied := g.applied + l.countP fun y =>
        markOf s c y != .none && precedence (markOf s c y) .group mark == .apply
      held := g.held + l.countP fun y =>
        markOf s c y != .none && precedence (markOf s c y) .group mark != .apply
      skipped := g.skipped + l.countP fun y => markOf s c y == .none } := by
  have hd : ∀ y, (groupRound s c ref mark).decision s y
      = if markOf s c y = .none then .notScheduled
        else if precedence (markOf s c y) .group mark ≠ .apply then .held
        else if mark = markOf s c y then .repeated else .applied := fun _ => rfl
  have happlied : ∀ y, ((groupRound s c ref mark).decision s y == .applied
        || (groupRound s c ref mark).decision s y == .repeated)
      = (markOf s c y != .none && precedence (markOf s c y) .group mark == .apply) := by
    intro y
    rw [hd, Bool.eq_iff_iff]
    split_ifs <;> simp_all
  have hheld : ∀ y, ((groupRound s c ref mark).decision s y == .held
        || (groupRound s c ref mark).decision s y == .conflict)
      = (markOf s c y != .none && precedence (markOf s c y) .group mark != .apply) := by
    intro y
    rw [hd, Bool.eq_iff_iff]
    split_ifs <;> simp_all
  have hskipped : ∀ y, ((groupRound s c ref mark).decision s y == .notScheduled)
      = (markOf s c y == .none) := by
    intro y
    rw [hd, Bool.eq_iff_iff]
    split_ifs <;> simp_all
  simp only [counted, happlied, hheld, hskipped]

theorem flatMap_ite_singleton {α β : Type} (test : α → Bool) (f : α → β) (l : List α) :
    (l.flatMap fun y => if test y then [f y] else []) = (l.filter test).map f := by
  induction l with
  | nil => rfl
  | cons y l ih => cases hy : test y <;> simp [hy, ih]

/-- A group walk tells of the changes out of UNEXPLAINED (R85). -/
theorem tells_groupRound (ref : PupilRef) (mark : Mark) (l : List Session) :
    l.flatMap ((groupRound s c ref mark).tells s)
      = (l.filter fun y => markOf s c y == .unexplained).map fun y => .leave c ref y mark := by
  rw [← flatMap_ite_singleton]
  refine List.flatMap_congr fun y _ => ?_
  by_cases hu : markOf s c y = .unexplained <;> simp [Round.tells, groupRound, raisesAlert, hu]

/-! ### The visits settled -/

theorem sessionVisit_acts {i : SessionItem} (w : recordsWf s) (hcursor : s.register.walker.cursor = c)
    (h : sessionSwept s i.plan i.session c p) :
    let u := advanceCursor (sessionSweep i.plan i.session c s)
    Visited s u c ∧ u.register.group = s.register.group
      ∧ recordAt u c = { recordAt s c with am := (recordAt u c).am, pm := (recordAt u c).pm }
      ∧ MarksTaken s u c [i.session] .unexplained .sweep (now s) (some (now s))
      ∧ (∀ y, y ∉ [i.session] → (recordAt u c).session y
          = { (recordAt s c).session y with trailGap := ((recordAt u c).session y).trailGap })
      ∧ u.wires = { s.wires with toMessages := s.wires.toMessages ++ [.raise c p.ref i.session] } := by
  have hsweepable : sweepable (markOf s c i.session) = true := sweepable_iff.2 h.2.2.2
  have hround := roundTaken_sweep (y := i.session) h.1 rfl (.refl w) (by simp)
  rw [if_pos hsweepable] at hround
  rw [sessionSweep_acts h]
  exact sweep_visited hcursor hround (propose_group w _)
    (by simpa using sweepable_ne_unexplained hsweepable)

theorem routeVisit_acts {routes : RouteSet} {today : PlanToday} (w : recordsWf s)
    (hcursor : s.register.walker.cursor = c) (h : routeSwept s routes c p today) :
    let u := advanceCursor (routeSweep routes c s)
    let l := routeSessions s c today
    Visited s u c ∧ u.register.group = s.register.group
      ∧ recordAt u c = { recordAt s c with am := (recordAt u c).am, pm := (recordAt u c).pm }
      ∧ MarksTaken s u c l .unexplained .sweep (now s) (some (now s))
      ∧ (∀ y, y ∉ l → (recordAt u c).session y
          = { (recordAt s c).session y with trailGap := ((recordAt u c).session y).trailGap })
      ∧ u.wires = { s.wires with
          toMessages := s.wires.toMessages ++ l.map fun y => .raise c p.ref y } := by
  obtain ⟨hround, hgroup⟩ := roundTaken_routeSweep h w
  refine sweep_visited hcursor hround hgroup fun y hy => ?_
  have hswept := List.of_mem_filter hy
  simp only [Bool.and_eq_true] at hswept
  exact sweepable_ne_unexplained hswept.2

theorem groupVisit_acts {g : GroupContents} (w : recordsWf s)
    (hcursor : s.register.walker.cursor = c) (h : groupMarked s g c p) :
    let t := advanceCursor (groupWalk g c s)
    let changed := g.sessions.list.filter fun y => markOf s c y != .none
      && precedence (markOf s c y) .group g.mark == .apply && markOf s c y != g.mark
    Visited s t c
      ∧ MarksTaken s t c changed g.mark .group (now s) none
      ∧ (∀ y, y ∉ changed → (recordAt t c).session y
          = { (recordAt s c).session y with trailGap := ((recordAt t c).session y).trailGap })
      ∧ t.register.group = { s.register.group with
          applied := s.register.group.applied + g.sessions.list.countP fun y =>
            markOf s c y != .none && precedence (markOf s c y) .group g.mark == .apply
          held := s.register.group.held + g.sessions.list.countP fun y =>
            markOf s c y != .none && precedence (markOf s c y) .group g.mark != .apply
          skipped := s.register.group.skipped + g.sessions.list.countP fun y =>
            markOf s c y == .none }
      ∧ t.wires = { s.wires with
          toMessages := s.wires.toMessages ++ (changed.filter fun y =>
            markOf s c y == .unexplained).map fun y => .leave c p.ref y g.mark
          toAccumulators := s.wires.toAccumulators ++ openMinutesOf s c p.ref changed (now s)
          toRoll := t.wires.toRoll }
      ∧ (changed = [] ∨ g.mark = .authorised →
          t.wires.toRoll = s.wires.toRoll
            ∧ recordAt t c = { recordAt s c with am := (recordAt t c).am, pm := (recordAt t c).pm })
      ∧ (changed ≠ [] → g.mark = .offsite →
          t.wires.toRoll = (if (recordAt s c).presence = .offSite then s.wires.toRoll
            else s.wires.toRoll ++ [⟨c, .offSite⟩])
          ∧ recordAt t c = { recordAt s c with
              am := (recordAt t c).am, pm := (recordAt t c).pm, presence := .offSite }) := by
  obtain ⟨hround, hgroup⟩ := groupWalk_spec h w
  rw [counted_groupRound] at hgroup
  dsimp only
  generalize hl : (g.sessions.list.filter fun y => markOf s c y != .none
      && precedence (markOf s c y) .group g.mark == .apply && markOf s c y != g.mark) = l
  replace hround : RoundTaken (groupRound s c p.ref g.mark) l s (groupWalk g c s) := hl ▸ hround
  refine ⟨visited_advanceCursor hround.frame hcursor, ?_, hround.left, hgroup, ?_, fun hm => ?_,
    fun hne hm => ?_⟩
  · have hmarks := hround.marksTaken (u := advanceCursor (groupWalk g c s)) rfl rfl rfl rfl rfl
    have hsince : (groupRound s c p.ref g.mark).since = none := if_neg fun h => by cases h.2
    rw [hsince] at hmarks
    exact hmarks
  · have hm := hround.messages
    have ha := hround.minutes
    rw [tells_groupRound] at hm
    have hw : (advanceCursor (groupWalk g c s)).wires = { s.wires with
        toMessages := (groupWalk g c s).wires.toMessages
        toAccumulators := (groupWalk g c s).wires.toAccumulators
        toRoll := (groupWalk g c s).wires.toRoll } := congrArg State.wires hround.frame
    rw [hw, hm, ha]
    rfl
  · have hnone : l = [] ∨ presenceOf (groupRound s c p.ref g.mark).mark = none :=
      hm.imp_right fun h => by rw [groupRound, h]; rfl
    exact ⟨hround.roll_eq hnone, hround.rest_eq hnone⟩
  · have hp : (groupRound s c p.ref g.mark).presence (recordAt s c).presence l = .offSite := by
      simp [Round.presence, hne, groupRound, hm, presenceOf]
    have hr : (groupRound s c p.ref g.mark).returning (recordAt s c).presence (recordAt s c).returning l
        = (recordAt s c).returning := by
      simp [Round.returning, groupRound, hm, presenceOf]
    have hslot : (groupRound s c p.ref g.mark).slot = c := rfl
    have hroll := hround.roll
    have hrest := hround.rest
    rw [hround.presence_eq, hslot, hp] at hroll
    rw [hslot, hp, hr] at hrest
    refine ⟨?_, hrest⟩
    refine hroll.trans ?_
    by_cases hoff : (recordAt s c).presence = .offSite
    · rw [if_pos hoff.symm, if_pos hoff, List.append_nil]
    · rw [if_neg (Ne.symm hoff), if_neg hoff]

/-- Settles O43: each visit either leaves the slot or is a round of the sessions it changes. -/
theorem walkVisitsActOnTheirSlot : Obligations.WalkVisitsActOnTheirSlot := by
  intro s c hawake hcanonical hcursor hc
  have w := recordsWf_of_canonical hcanonical
  refine ⟨fun i hhand halarm => exec_visits_paused hawake ((paused_item hhand).trans halarm),
    fun i hhand halarm => ⟨_, exec_sessionSweepVisit hawake halarm hcursor hc hhand, ?_⟩,
    fun i hhand halarm => ⟨_, exec_routeSweepVisit hawake halarm hcursor hc hhand, ?_⟩,
    fun i hhand halarm => ⟨_, exec_groupWalkVisit hawake halarm hcursor hc hhand, ?_⟩⟩
  · by_cases hact : ∃ p, sessionSwept s i.plan i.session c p
    · obtain ⟨p, h⟩ := hact
      obtain ⟨hvisited, hgroup, hrest, htaken, hleft, hwires⟩ := sessionVisit_acts w hcursor h
      obtain ⟨hp, hplan, hroute, hmark⟩ := h
      refine ⟨hvisited, hgroup, fun y hy => hleft y (by simpa using hy), hrest,
        fun q hq _ _ _ => ?_, fun hrests => ?_⟩
      · obtain rfl := Option.some.inj (hp.symm.trans hq)
        exact ⟨htaken, hwires⟩
      · rcases hrests with hnone | ⟨q, hq, hother⟩ | hother
        · simp [hp] at hnone
        · obtain rfl := Option.some.inj (hp.symm.trans hq)
          simp [hplan, hroute] at hother
        · exact absurd hmark (by simp [hother])
    · push Not at hact
      rw [sessionSweep_rests hact]
      exact ⟨visited_advanceCursor_self hcursor, rfl, fun _ _ => rfl, rfl,
        fun p hp hplan hroute hmark => absurd ⟨hp, hplan, hroute, hmark⟩ (hact p),
        fun _ => ⟨rfl, rfl, rfl, rfl, rfl⟩⟩
  · by_cases hact : ∃ p today, routeSwept s i.routes c p today
    · obtain ⟨p, today, h⟩ := hact
      obtain ⟨hvisited, hgroup, hrest, htaken, hleft, hwires⟩ := routeVisit_acts w hcursor h
      obtain ⟨hp, htoday, hnumber, hroutes, hroute⟩ := h
      refine ⟨hvisited, hgroup, hrest, fun q d swept hq hd _ _ _ hswept => ?_, fun hrests => ?_⟩
      · obtain rfl := Option.some.inj (hp.symm.trans hq)
        obtain rfl := Option.some.inj (htoday.symm.trans hd)
        subst hswept
        exact ⟨htaken, hleft, hwires⟩
      · rcases hrests with hnone | ⟨q, hq, hother⟩
        · simp [hp] at hnone
        · obtain rfl := Option.some.inj (hp.symm.trans hq)
          simp [htoday, hnumber, hroutes, hroute] at hother
    · push Not at hact
      rw [routeSweep_rests hact]
      exact ⟨visited_advanceCursor_self hcursor, rfl, rfl,
        fun p today _ hp htoday hnumber hroutes hroute _ =>
          absurd ⟨hp, htoday, hnumber, hroutes, hroute⟩ (hact p today),
        fun _ => ⟨rfl, rfl, rfl, rfl, rfl⟩⟩
  · by_cases hact : ∃ p, groupMarked s i.contents c p
    · obtain ⟨p, h⟩ := hact
      obtain ⟨hvisited, hrest⟩ := groupVisit_acts w hcursor h
      obtain ⟨hp, hgroups, hcohort⟩ := h
      refine ⟨hvisited, fun q changed hq _ _ hchanged => ?_, fun hrests => ?_⟩
      · obtain rfl := Option.some.inj (hp.symm.trans hq)
        subst hchanged
        exact hrest
      · rcases hrests with hnone | ⟨q, hq, hother⟩
        · simp [hp] at hnone
        · obtain rfl := Option.some.inj (hp.symm.trans hq)
          rcases hother with hother | hother
          · exact absurd hother hgroups
          · simp [hcohort] at hother
    · push Not at hact
      rw [groupWalk_rests hact]
      exact ⟨visited_advanceCursor_self hcursor,
        fun p _ hp hgroups hcohort _ => absurd ⟨hp, hgroups, hcohort⟩ (hact p),
        fun _ => ⟨by subst hcursor; rfl, rfl, rfl⟩⟩

end RegisterLaws
end Sys2Proof.Machine
end

section
/-! SUPPORT. A visit of the open walk: the slot's reset, then its standing notice (R96, R129). -/

namespace Sys2Proof.Machine

open Sys2Proof

namespace RegisterLaws

variable {s t u : State} {c : Nat}

/-! ### Rounds that leave no amendment -/

theorem sameButGap_eq {a b : RegisterRecord} (h : a.sameButGap b)
    (hg : ∀ y, (b.session y).trailGap = (a.session y).trailGap) : b = a := by
  have ham : b.am.trailGap = a.am.trailGap := hg .am
  have hpm : b.pm.trailGap = a.pm.trailGap := hg .pm
  rw [h, ham, hpm]

section Silent

variable {r : Round} {l : List Session} (h : RoundTaken r l s t)
  (hblank : ∀ y ∈ l, markOf s r.slot y = .blank)

include h hblank

/-- A round over BLANK sessions leaves the trail (R92). -/
theorem RoundTaken.trail_of_blank : AmendmentsAppended [] s t := by
  have he : r.amendments s l = [] := by
    rw [Round.amendments, List.filter_eq_nil_iff.2 fun y hy => by simp [hblank y hy], List.map_nil]
  have ht := h.trail
  rwa [he] at ht

theorem RoundTaken.others_of_blank (k : Nat) (hk : k ≠ r.slot) : recordAt t k = recordAt s k :=
  sameButGap_eq (h.others k hk) ((h.trail_of_blank hblank).2.2.2 k)

theorem RoundTaken.left_of_blank (y : Session) (hy : y ∉ l) :
    (recordAt t r.slot).session y = (recordAt s r.slot).session y := by
  rw [h.left y hy, (h.trail_of_blank hblank).2.2.2]

theorem RoundTaken.taken_of_blank (y : Session) (hy : y ∈ l) :
    (recordAt t r.slot).session y = r.changed ((recordAt s r.slot).session y) := by
  rw [h.taken y hy, (h.trail_of_blank hblank).2.2.2]
  rfl

/-- A round over BLANK sessions that raises no alert and makes no presence writes the records alone. -/
theorem RoundTaken.frame_of_blank (hgroup : t.register.group = s.register.group)
    (hmark : r.mark ≠ .unexplained) (hp : presenceOf r.mark = none) :
    t = { s with register := { s.register with records := t.register.records } } := by
  obtain ⟨hamendments, hlost, hlink, -⟩ := h.trail_of_blank hblank
  have hmessages := h.messages
  have hminutes := h.minutes
  rw [List.flatMap_eq_nil_iff.2 fun y hy => by simp [Round.tells, hblank y hy, hmark],
    List.append_nil] at hmessages
  rw [openMinutesOf_eq_nil fun y hy => by simp [hblank y hy], List.append_nil] at hminutes
  have hroll := h.roll_eq (.inr hp)
  have hframe : t = _ := h.frame
  rwa [hamendments, hlost, hgroup, hmessages, hminutes, hroll, hlink] at hframe

end Silent

/-! ### The reset -/

/-- The mark a reset for today leaves a session (R96). -/
def openingMark (s : State) (c : Nat) (y : Session) : Mark :=
  if (slotSessions s c).has y = true then .blank else .none

theorem resetForToday_eq (c : Nat) (s : State) :
    resetForToday c s = resetRecord c (openingMark s c .am) (openingMark s c .pm) s := by
  rw [resetForToday, openingMark, openingMark, slotSessions]
  cases pupilAt s c <;> rfl

theorem recordAt_resetForToday_same (w : recordsWf s) :
    recordAt (resetForToday c s) c = .reset (openingMark s c .am) (openingMark s c .pm) := by
  rw [resetForToday_eq]
  exact recordAt_setRecord_same w _ _

theorem session_resetForToday (w : recordsWf s) (y : Session) :
    (recordAt (resetForToday c s) c).session y = .reset (openingMark s c y) := by
  rw [recordAt_resetForToday_same w]
  cases y <;> rfl

theorem recordAt_resetForToday_ne {k : Nat} (hk : k ≠ c) :
    recordAt (resetForToday c s) k = recordAt s k := by
  rw [resetForToday_eq]
  exact recordAt_setRecord_ne _ hk

theorem recordsWf_resetForToday (w : recordsWf s) : recordsWf (resetForToday c s) := by
  rw [resetForToday_eq]
  exact recordsWf_of_records (s := setRecord c _ s) rfl (recordsWf_setRecord w _ _)

/-! ### The standing notice -/

/-- What the slot's standing notice leaves that was applied to some of its sessions. -/
structure StandingTaken (c : Nat) (m : NoticeMark) (l : List Session) (s t : State) : Prop where
  frame : t = { s with
    register := { s.register with records := t.register.records }
    messages := { s.messages with standing := t.messages.standing } }
  others : ∀ k, k ≠ c → recordAt t k = recordAt s k
  taken : ∀ y ∈ l, (recordAt t c).session y
    = { (recordAt s c).session y with
        mark := .notified, lastSource := some .notice, lastChange := some (now s), since := none
        notice := some m }
  left : ∀ y, y ∉ l → (recordAt t c).session y = (recordAt s c).session y
  rest : recordAt t c = { recordAt s c with am := (recordAt t c).am, pm := (recordAt t c).pm }

theorem standingTaken_nil (c : Nat) (m : NoticeMark) (s : State) : StandingTaken c m [] s s :=
  ⟨rfl, fun _ _ => rfl, fun _ h => absurd h (by simp), fun _ _ => rfl, rfl⟩

theorem standingTaken_drop (c : Nat) (m : NoticeMark) (s : State) :
    StandingTaken c m [] s (dropStanding c s) :=
  ⟨rfl, fun _ _ => rfl, fun _ h => absurd h (by simp), fun _ _ => rfl, rfl⟩

theorem proposeEach_fst (make : Session → Proposal) (l : List Session) (s : State) :
    (proposeEach make l s).1 = l.foldl (fun s y => (propose (make y) s).1) s := by
  induction l generalizing s with
  | nil => rfl
  | cons y l ih => exact ih _

/-- The round of a standing notice at a slot (R129). -/
def noticeRound (c : Nat) (ref : PupilRef) (e : Standing) (stamp : Stamp) : Round :=
  ⟨c, ref, .notified, .notice, stamp, some ⟨e.kind, e.reason⟩⟩

/-- A standing notice is applied at the sessions of its set that the reset left BLANK (R82, R129). -/
theorem roundTaken_standing {e : Standing} {ref : PupilRef} (w : recordsWf s) (sessions : SessionSet)
    (hblank : ∀ y, markOf s c y = if sessions.has y = true then .blank else .none)
    (hp : (∃ y, sessions.has y = true) → ∃ p, pupilAt s c = some p ∧ p.ref = ref) :
    let t := (proposeEach (noticeProposal c e.kind e.reason (now s)) e.sessions.list s).1
    RoundTaken (noticeRound c ref e (now s)) (e.sessions.list.filter sessions.has) s t
      ∧ t.register.group = s.register.group := by
  dsimp only
  rw [proposeEach_fst]
  refine roundTaken_foldl _ (sessions_list_nodup _) w fun met y t hmet ht => ?_
  refine ⟨?_, propose_group ht.wf _⟩
  have hmark : markOf t c y = if sessions.has y = true then .blank else .none :=
    (ht.markOf_left hmet).trans (hblank y)
  change RoundTaken _ _ t (propose ((noticeRound c ref e (now s)).proposal y) t).1
  cases hy : sessions.has y with
  | false =>
    rw [hy] at hmark
    rw [propose_of_unscheduled (q := (noticeRound c ref e (now s)).proposal y) (.inr hmark)]
    exact .refl ht.wf
  | true =>
    rw [hy, if_pos rfl] at hmark
    obtain ⟨p, hpupil, href⟩ := hp ⟨y, hy⟩
    refine (propose_of_changes ht.wf (by simp [noticeRound]) ((ht.pupilAt_eq c).trans hpupil) href
      (Round.changes_iff.2 ?_)).1
    change markOf t c y ≠ _ ∧ precedence (markOf t c y) _ _ = _ ∧ markOf t c y ≠ _
    rw [hmark]
    exact ⟨nofun, rfl, nofun⟩

theorem standingTaken_covering {e : Standing} (w : recordsWf s) (sessions : SessionSet)
    (hblank : ∀ y, markOf s c y = if sessions.has y = true then .blank else .none)
    (hp : (∃ y, sessions.has y = true) → ∃ p, pupilAt s c = some p) :
    let t := (proposeEach (noticeProposal c e.kind e.reason (now s)) e.sessions.list s).1
    StandingTaken c ⟨e.kind, e.reason⟩ (e.sessions.list.filter sessions.has) s t
      ∧ t.messages = s.messages := by
  dsimp only
  obtain ⟨ref, href⟩ : ∃ ref : PupilRef,
      (∃ y, sessions.has y = true) → ∃ p, pupilAt s c = some p ∧ p.ref = ref := by
    cases hpupil : pupilAt s c with
    | none => exact ⟨0, fun h => absurd (hp h) (by simp [hpupil])⟩
    | some p => exact ⟨p.ref, fun _ => ⟨p, rfl, rfl⟩⟩
  obtain ⟨h, hgroup⟩ := roundTaken_standing (e := e) w sessions hblank href
  have hl : ∀ y ∈ e.sessions.list.filter sessions.has, markOf s c y = .blank := fun y hy => by
    rw [hblank y, if_pos (List.of_mem_filter hy)]
  have hframe := h.frame_of_blank hl hgroup nofun rfl
  refine ⟨⟨?_, h.others_of_blank hl, fun y hy => ?_, h.left_of_blank hl, h.rest_eq (.inr rfl)⟩, ?_⟩
  · rw [hframe]
  · exact (h.taken_of_blank hl y hy).trans rfl
  · rw [hframe]

/-- What the slot's standing notice is applied to (R129): the sessions of its set, of those the pupil has
today, where it covers today. -/
def noticedSessions (s : State) (c : Nat) : List Session :=
  match standingOf s c with
  | some e =>
    if e.firstDay ≤ today s ∧ today s ≤ e.lastDay then e.sessions.list.filter (slotSessions s c).has
    else []
  | none => []

theorem mem_sessions_list {x : SessionSet} {y : Session} : y ∈ x.list ↔ x.has y = true := by
  obtain ⟨am, pm⟩ := x
  cases am <;> cases pm <;> cases y <;> decide

theorem mem_noticedSessions {x : Session} : x ∈ noticedSessions s c ↔ ∃ e, standingOf s c = some e
    ∧ e.firstDay ≤ today s ∧ today s ≤ e.lastDay ∧ e.sessions.has x = true
    ∧ (slotSessions s c).has x = true := by
  unfold noticedSessions
  cases standingOf s c with
  | none => simp
  | some e =>
    dsimp only
    split_ifs with hcovers <;> simp [hcovers, mem_sessions_list, ← and_assoc]

/-- The kind and reason it gives them. -/
def noticeOf (s : State) (c : Nat) : NoticeMark :=
  match standingOf s c with
  | some e => ⟨e.kind, e.reason⟩
  | none => ⟨.absent, 0⟩

theorem slotSessions_enrolled {y : Session} (h : (slotSessions s c).has y = true) :
    ∃ p, pupilAt s c = some p := by
  cases hp : pupilAt s c with
  | some p => exact ⟨p, rfl⟩
  | none =>
    rw [slotSessions, hp] at h
    cases y <;> cases h

theorem visitStanding_taken (w : recordsWf s)
    (hblank : ∀ y, markOf s c y = if (slotSessions s c).has y = true then .blank else .none) :
    StandingTaken c (noticeOf s c) (noticedSessions s c) s (visitStanding c s)
      ∧ (∀ e, standingOf s c = some e → e.lastDay < today s →
          (visitStanding c s).messages.standing = s.messages.standing.filter (·.slot != c))
      ∧ ((∀ e, standingOf s c = some e → today s ≤ e.lastDay) →
          (visitStanding c s).messages = s.messages) := by
  unfold visitStanding noticedSessions noticeOf
  cases he : standingOf s c with
  | none => exact ⟨standingTaken_nil _ _ _, by simp, fun _ => rfl⟩
  | some e =>
    dsimp only
    by_cases hlast : e.lastDay < today s
    · rw [if_pos hlast, if_neg fun h => absurd hlast (BitVec.not_lt.2 h.2)]
      refine ⟨standingTaken_drop _ _ _, fun _ _ _ => rfl, fun h => ?_⟩
      exact absurd hlast (BitVec.not_lt.2 (h e rfl))
    · have hle := BitVec.not_lt.1 hlast
      rw [if_neg hlast]
      by_cases hfirst : e.firstDay ≤ today s
      · rw [if_pos hfirst, if_pos ⟨hfirst, hle⟩]
        obtain ⟨htaken, hmessages⟩ := standingTaken_covering (e := e) w _ hblank
          fun ⟨y, hy⟩ => slotSessions_enrolled hy
        refine ⟨htaken, fun x hx hexp => ?_, fun _ => hmessages⟩
        obtain rfl := Option.some.inj hx
        exact absurd hexp hlast
      · rw [if_neg hfirst, if_neg fun h => hfirst h.1]
        refine ⟨standingTaken_nil _ _ _, fun x hx hexp => ?_, fun _ => rfl⟩
        obtain rfl := Option.some.inj hx
        exact absurd hexp hlast

/-! ### The visit -/

theorem exec_openWalkVisit (hawake : s.lines.resetN = true)
    (hhand : s.register.walker.hand = some .openWalk) (hcursor : s.register.walker.cursor = c)
    (hc : c < 2048) : exec .openWalkVisit s = .next (advanceCursor (openVisit c s)) := by
  have hp : s.register.walker.paused = false := by rw [Walker.paused, hhand]
  exact (event_awake hawake _).trans (congrArg _ (visit_eq hhand hp hcursor hc rfl))

/-- Settles O25: the reset leaves each session BLANK or NONE, and the notice is a round of the BLANK ones
of its set. -/
theorem openWalkVisitResetsItsSlot : Obligations.OpenWalkVisitResetsItsSlot := by
  intro s c hawake hhand hcursor hc hwf
  have w : recordsWf s := ⟨_, hwf⟩
  have hsession := session_resetForToday (c := c) w
  obtain ⟨htaken, hexpired, hkept⟩ := visitStanding_taken (s := resetForToday c s) (c := c)
    (recordsWf_resetForToday w) fun y => congrArg SessionMarks.mark (hsession y)
  refine ⟨_, exec_openWalkVisit hawake hhand hcursor hc, ?_, fun k hk => ?_, ?_, fun x hx => ?_,
    fun e he hfirst hlast x hx => ?_, hexpired, hkept⟩
  · change advanceCursor (visitStanding c (resetForToday c s)) = _
    rw [htaken.frame]
    subst hcursor
    rfl
  · exact (htaken.others k hk).trans (recordAt_resetForToday_ne hk)
  · refine htaken.rest.trans ?_
    rw [recordAt_resetForToday_same w]
    rfl
  · refine (htaken.left x fun hmem => ?_).trans (hsession x)
    obtain ⟨e, he, hfirst, hlast, hset, -⟩ := mem_noticedSessions.1 hmem
    rcases hx e he hset with h | h
    · exact BitVec.not_lt.2 hlast h
    · exact BitVec.not_lt.2 hfirst h
  · refine ⟨fun htoday => ?_, fun htoday => ?_⟩
    · have hnotice : noticeOf (resetForToday c s) c = ⟨e.kind, e.reason⟩ := by
        have he' : standingOf (resetForToday c s) c = some e := he
        rw [noticeOf, he']
      refine (htaken.taken x (mem_noticedSessions.2 ⟨e, he, hfirst, hlast, hx, htoday⟩)).trans ?_
      rw [hsession, hnotice]
      rfl
    · refine (htaken.left x fun hmem => ?_).trans ((hsession x).trans ?_)
      · obtain ⟨_, -, -, -, -, h⟩ := mem_noticedSessions.1 hmem
        exact absurd (htoday.symm.trans h) nofun
      · rw [openingMark, htoday]
        rfl

end RegisterLaws
end Sys2Proof.Machine
end

section
/-! SUPPORT. A visit of the close walk: the FINAL marks, then the open minutes, then the fold (R97, R149). -/

namespace Sys2Proof.Machine

open Sys2Proof

namespace RegisterLaws

variable {s t u : State} {c : Nat} {ref : PupilRef} {close : Stamp}

/-! ### The FINAL marks -/

/-- The round of the close walk at a slot (R97). -/
def finalRound (c : Nat) (ref : PupilRef) (close : Stamp) : Round :=
  ⟨c, ref, .unexplained, .final, close, none⟩

/-- FINAL changes what a sweep would, and no other mark (R81). -/
theorem changes_finalRound (y : Session) :
    (finalRound c ref close).changes s y = sweepable (markOf s c y) := by
  unfold Round.changes
  dsimp only [finalRound]
  cases markOf s c y <;> rfl

/-- The sessions the close walk marks (R97). -/
def finalSessions (s : State) (c : Nat) : List Session :=
  [Session.am, .pm].filter fun y => markOf s c y == .blank || markOf s c y == .notSeen

theorem mem_finalSessions {y : Session} : y ∈ finalSessions s c ↔ sweepable (markOf s c y) = true := by
  unfold finalSessions
  rw [List.mem_filter]
  refine and_iff_right ?_
  cases y <;> simp

theorem roundTaken_final {p : Pupil} (w : recordsWf s) (hp : pupilAt s c = some p) :
    let t := [Session.am, .pm].foldl (finalMark c close) s
    RoundTaken (finalRound c p.ref close) (finalSessions s c) s t
      ∧ t.register.group = s.register.group := by
  refine roundTaken_foldl _ (by decide) w fun met y t hmet ht => ⟨?_, propose_group ht.wf _⟩
  have hround := (roundTaken_propose (r := finalRound c p.ref close) (y := y) ht.wf nofun
    ((ht.pupilAt_eq c).trans hp) rfl nofun nofun).1
  rw [ht.changes_left hmet, changes_finalRound] at hround
  exact hround

/-! ### The open minutes -/

/-- The unexplained-since once the open minutes up to the close are passed (R97). -/
def settled (m : SessionMarks) : SessionMarks :=
  { m with since := if m.mark = .unexplained then none else m.since }

/-- What the accrual leaves of the open minutes of some sessions. -/
structure OpenAccrued (c : Nat) (ref : PupilRef) (close : Stamp) (l : List Session) (s t : State) :
    Prop where
  frame : t = { s with
    register := { s.register with records := t.register.records }
    wires := { s.wires with
      toAccumulators := s.wires.toAccumulators ++ openMinutesOf s c ref l close } }
  wf : recordsWf t
  others : ∀ k, k ≠ c → recordAt t k = recordAt s k
  accrued : ∀ y ∈ l, (recordAt t c).session y = settled ((recordAt s c).session y)
  left : ∀ y, y ∉ l → (recordAt t c).session y = (recordAt s c).session y
  rest : recordAt t c = { recordAt s c with am := (recordAt t c).am, pm := (recordAt t c).pm }

theorem settled_eq_self {m : SessionMarks} (h : m.mark = .unexplained → m.since = none) :
    settled m = m := by
  unfold settled
  split_ifs with hm
  · rw [← h hm]
  · rfl

/-- A session with no open minutes is left as it is. -/
theorem accrueOpen_rests {y : Session}
    (h : ((recordAt s c).session y).mark = .unexplained → ((recordAt s c).session y).since = none) :
    accrueOpen c ref close s y = s := by
  unfold accrueOpen
  dsimp only
  split
  next hm hs => rw [h hm] at hs; cases hs
  · rfl

theorem accrueOpen_acts {y : Session} {since : Stamp}
    (hm : ((recordAt s c).session y).mark = .unexplained)
    (hs : ((recordAt s c).session y).since = some since) :
    accrueOpen c ref close s y
      = tellAccumulators (.openMinutes c ref (secondsBetween since close / 60))
        (setRecord c ((recordAt s c).setSession y { (recordAt s c).session y with since := none }) s) := by
  unfold accrueOpen
  dsimp only
  rw [hm, hs]

theorem openMinutesOf_append (l k : List Session) : openMinutesOf s c ref (l ++ k) close
    = openMinutesOf s c ref l close ++ openMinutesOf s c ref k close := by
  simp [openMinutesOf]

theorem openMinutesOf_eq_filterMap (l : List Session) :
    openMinutesOf s c ref l close = l.filterMap fun y =>
      if markOf s c y == .unexplained then
        ((recordAt s c).session y).since.map fun since =>
          .openMinutes c ref (secondsBetween since close / 60)
      else none :=
  List.filterMap_filter

theorem openMinutesOf_congr {l : List Session}
    (h : ∀ y ∈ l, (recordAt t c).session y = (recordAt s c).session y) :
    openMinutesOf t c ref l close = openMinutesOf s c ref l close := by
  rw [openMinutesOf_eq_filterMap, openMinutesOf_eq_filterMap]
  exact List.filterMap_congr fun y hy => by rw [markOf, markOf, h y hy]

/-- One session's accrual. -/
theorem openAccrued_accrueOpen (w : recordsWf s) (y : Session) :
    OpenAccrued c ref close [y] s (accrueOpen c ref close s y) := by
  have hminutes := openMinutesOf_eq_filterMap (s := s) (c := c) (ref := ref) (close := close) [y]
  by_cases hact : ∃ since, ((recordAt s c).session y).mark = .unexplained
      ∧ ((recordAt s c).session y).since = some since
  · obtain ⟨since, hm, hs⟩ := hact
    have hmark : markOf s c y = .unexplained := hm
    rw [accrueOpen_acts hm hs]
    have hrec := recordAt_setRecord_same w c
      ((recordAt s c).setSession y { (recordAt s c).session y with since := none })
    refine ⟨?_, recordsWf_of_records (s := setRecord c _ s) rfl (recordsWf_setRecord w _ _),
      fun k hk => recordAt_setRecord_ne _ hk, fun x hx => ?_, fun x hx => ?_, ?_⟩
    · rw [hminutes]
      simp [hmark, hs, tellAccumulators, setRecord]
    · obtain rfl := List.mem_singleton.1 hx
      refine (congrArg (RegisterRecord.session · x) hrec).trans ?_
      rw [RegisterRecord.session_setSession_same, settled, if_pos hm]
    · refine (congrArg (RegisterRecord.session · x) hrec).trans ?_
      exact RegisterRecord.session_setSession_ne _ _ (by simpa using hx)
    · rw [show recordAt (tellAccumulators _ (setRecord c _ s)) c = _ from hrec]
      cases y <;> rfl
  · have hnone : ((recordAt s c).session y).mark = .unexplained →
        ((recordAt s c).session y).since = none := fun hm => by
      rw [Option.eq_none_iff_forall_ne_some]
      exact fun v hv => hact ⟨v, hm, hv⟩
    rw [accrueOpen_rests hnone]
    refine ⟨?_, w, fun _ _ => rfl, fun x hx => ?_, fun _ _ => rfl, rfl⟩
    · rw [hminutes]
      by_cases hm : markOf s c y = .unexplained
      · simp [hm, hnone hm]
      · simp [hm]
    · obtain rfl := List.mem_singleton.1 hx
      exact (settled_eq_self hnone).symm

theorem OpenAccrued.trans {l k : List Session} (h : OpenAccrued c ref close l s t)
    (g : OpenAccrued c ref close k t u) (hd : ∀ y ∈ k, y ∉ l) :
    OpenAccrued c ref close (l ++ k) s u where
  frame := by
    have hminutes := openMinutesOf_congr (ref := ref) (close := close) fun y hy => h.left y (hd y hy)
    have htold : t.wires.toAccumulators
        = s.wires.toAccumulators ++ openMinutesOf s c ref l close :=
      congrArg (fun v => v.wires.toAccumulators) h.frame
    refine g.frame.trans ?_
    rw [hminutes, htold, List.append_assoc, ← openMinutesOf_append, h.frame]
  wf := g.wf
  others := fun x hx => (g.others x hx).trans (h.others x hx)
  accrued := fun y hy => by
    by_cases hk : y ∈ k
    · rw [g.accrued y hk, h.left y (hd y hk)]
    · rw [g.left y hk, h.accrued y ((List.mem_append.1 hy).resolve_right hk)]
  left := fun y hy => by
    rw [List.mem_append, not_or] at hy
    rw [g.left y hy.2, h.left y hy.1]
  rest := by rw [g.rest, h.rest]

theorem openAccrued_both (w : recordsWf s) :
    OpenAccrued c ref close [.am, .pm] s ([Session.am, .pm].foldl (accrueOpen c ref close) s) :=
  have h := openAccrued_accrueOpen w .am
  h.trans (openAccrued_accrueOpen h.wf .pm) (by decide)

/-! ### The visit -/

theorem exec_closeWalkVisit (hawake : s.lines.resetN = true)
    (hhand : s.register.walker.hand = some .closeWalk) (hcursor : s.register.walker.cursor = c)
    (hc : c < 2048) : exec .closeWalkVisit s = .next (advanceCursor (closeVisit c s)) := by
  have hp : s.register.walker.paused = false := by rw [Walker.paused, hhand]
  exact (event_awake hawake _).trans (congrArg _ (visit_eq hhand hp hcursor hc rfl))

theorem closeVisit_empty (hp : pupilAt s c = none) : closeVisit c s = s := by
  rw [closeVisit, hp]

/-- The close walk's visit of an ENROLLED slot: a round, its open minutes, and the fold of the marks then
standing (R97, R149). -/
theorem closeVisit_enrolled {p : Pupil} (w : recordsWf s) (hp : pupilAt s c = some p)
    (hclose : s.day.closeTime = some close) :
    ∃ t u, RoundTaken (finalRound c p.ref close) (finalSessions s c) s t
      ∧ t.register.group = s.register.group ∧ OpenAccrued c p.ref close [.am, .pm] t u
      ∧ closeVisit c s
        = tellAccumulators (.fold c p.ref (today u) (markOf u c .am) (markOf u c .pm)) u := by
  obtain ⟨hround, hgroup⟩ := roundTaken_final (close := close) w hp
  refine ⟨_, _, hround, hgroup, openAccrued_both hround.wf, ?_⟩
  rw [closeVisit, hp]
  dsimp only
  rw [hclose, Option.getD_some]

section Settled

variable {p : Pupil} (hround : RoundTaken (finalRound c p.ref close) (finalSessions s c) s t)
  (haccrued : OpenAccrued c p.ref close [.am, .pm] t u)

include haccrued in
theorem OpenAccrued.session_eq (y : Session) :
    (recordAt u c).session y = settled ((recordAt t c).session y) :=
  haccrued.accrued y (by cases y <;> simp)

include haccrued in
/-- The accrual leaves the trail. -/
theorem OpenAccrued.trail : AmendmentsAppended [] t u := by
  refine ⟨by rw [haccrued.frame], by rw [haccrued.frame], by rw [haccrued.frame], fun k y => ?_⟩
  by_cases hk : k = c
  · rw [hk, haccrued.session_eq]
    rfl
  · rw [haccrued.others k hk]

include hround

/-- The open minutes after the FINAL marks are those that stood before them: a session just marked has no
unexplained-since (R84). -/
theorem final_openMinutes :
    openMinutesOf t c p.ref [.am, .pm] close = openMinutesOf s c p.ref [.am, .pm] close := by
  rw [openMinutesOf_eq_filterMap, openMinutesOf_eq_filterMap]
  refine List.filterMap_congr fun y _ => ?_
  by_cases hy : y ∈ finalSessions s c
  · have hs : markOf s c y ≠ .unexplained := sweepable_ne_unexplained (mem_finalSessions.1 hy)
    have hsince : ((recordAt t c).session y).since = none := by
      have htaken : (recordAt t c).session y = _ := hround.taken y hy
      rw [htaken]
      rfl
    simp [hs, hsince]
  · have hmark : markOf t c y = markOf s c y := hround.markOf_left hy
    have hsince : ((recordAt t c).session y).since = _ := hround.since_left hy
    rw [hmark, hsince]
    rfl

include haccrued

theorem final_taken {y : Session} (hy : y ∈ finalSessions s c) :
    (recordAt u c).session y = { (recordAt s c).session y with
      mark := .unexplained, lastSource := some .final, lastChange := some close, since := none
      trailGap := ((recordAt u c).session y).trailGap } := by
  have htaken : (recordAt t c).session y = _ := hround.taken y hy
  rw [haccrued.session_eq, htaken]
  rfl

theorem final_left {y : Session} (hy : y ∉ finalSessions s c) :
    (recordAt u c).session y = { (recordAt s c).session y with
      since := if markOf s c y = .unexplained then none else ((recordAt s c).session y).since
      trailGap := ((recordAt u c).session y).trailGap } := by
  have hleft : (recordAt t c).session y = _ := hround.left y hy
  rw [haccrued.session_eq, hleft]
  rfl

theorem final_wires : u.wires = { s.wires with
    toAccumulators := s.wires.toAccumulators ++ openMinutesOf s c p.ref [.am, .pm] close } := by
  have hmark : ∀ y ∈ finalSessions s c, markOf s c y ≠ .unexplained := fun y hy =>
    sweepable_ne_unexplained (mem_finalSessions.1 hy)
  have hmessages := hround.messages
  have hminutes := hround.minutes
  have hroll := hround.roll_eq (.inr rfl)
  rw [List.flatMap_eq_nil_iff.2 fun y hy => by
    simp [Round.tells, finalRound, raisesAlert, hmark y hy], List.append_nil] at hmessages
  rw [openMinutesOf_eq_nil (c := (finalRound c p.ref close).slot) hmark, List.append_nil] at hminutes
  have hu : u.wires = { t.wires with
      toAccumulators := t.wires.toAccumulators ++ openMinutesOf t c p.ref [.am, .pm] close } :=
    congrArg State.wires haccrued.frame
  have ht : t.wires = { s.wires with
      toMessages := t.wires.toMessages, toAccumulators := t.wires.toAccumulators,
      toRoll := t.wires.toRoll } := congrArg State.wires hround.frame
  rw [hu, final_openMinutes hround, ht, hmessages, hminutes, hroll]

end Settled

/-- Settles O27: the FINAL marks are a round, and the accrual after it writes the unexplained-since
alone. -/
theorem closeWalkVisitSettlesItsSlot : Obligations.CloseWalkVisitSettlesItsSlot := by
  intro s c close hawake hhand hcursor hc hclose hwf
  have w : recordsWf s := ⟨_, hwf⟩
  rw [exec_closeWalkVisit hawake hhand hcursor hc]
  refine ⟨fun hp => ?_, fun p hp => ⟨_, rfl, ?_⟩⟩
  · rw [closeVisit_empty hp]
    subst hcursor
    rfl
  obtain ⟨t, u, hround, hgroup, haccrued, he⟩ := closeVisit_enrolled w hp hclose
  have hframe : onlyVisited t u := by
    unfold onlyVisited
    rw [haccrued.frame]
  have hwires := final_wires hround haccrued
  have htoday : today u = today s := by
    rw [haccrued.frame, hround.frame]
    rfl
  rw [he]
  refine ⟨visited_advanceCursor ((hround.frame.trans hframe).trans rfl) hcursor, ?_,
    ⟨fun y hy => ?_, fun k hk => ?_, ?_⟩, fun y hb hn => ?_, ?_, ?_⟩
  · have hstood : u.register.group = t.register.group := by rw [haccrued.frame]
    exact hstood.trans hgroup
  · exact final_taken hround haccrued hy
  · have hother := hround.others k hk
    rwa [← haccrued.others k hk] at hother
  · exact appendeds_congr (t' := t) (appended_nil_refl s) rfl rfl
      (appended_nil_trans haccrued.trail ⟨rfl, rfl, rfl, fun _ _ => rfl⟩) hround.trail
  · refine final_left hround haccrued fun hy => ?_
    rcases sweepable_iff.1 (mem_finalSessions.1 hy) with h | h
    · exact hb h
    · exact hn h
  · have hrest : recordAt t c = _ := hround.rest_eq (.inr rfl)
    refine haccrued.rest.trans ?_
    rw [hrest]
    rfl
  · have htold : ∀ m, (advanceCursor (tellAccumulators m u)).wires
        = { u.wires with toAccumulators := u.wires.toAccumulators ++ [m] } := fun _ => rfl
    rw [htold, hwires, htoday]
    rfl

end RegisterLaws
end Sys2Proof.Machine
end

section
/-! SUPPORT. A SIGN-IN whose class proposes a mark (R81, R82, R86, R99 to R107). -/

namespace Sys2Proof.Machine

open Sys2Proof

namespace RegisterLaws

/-! ### The port that serves the frame is not the Day Register's -/

section Serving

variable (s : State) (f : Frame) (k : Kind)

theorem reportFault_serving (r : FaultRecord) :
    reportFault r (s.serving f k) = (reportFault r s).serving f k := by
  have hstore : (s.serving f k).store = s.store := rfl
  have hfault : (s.serving f k).link.fault = s.link.fault := rfl
  unfold reportFault
  rw [hstore, hfault]
  split
  · rfl
  · cases s.link.fault <;> rfl

theorem setPresence_serving (c : Nat) (x : Presence) :
    setPresence c x (s.serving f k) = (setPresence c x s).serving f k := by
  have hrec : recordAt (s.serving f k) c = recordAt s c := rfl
  unfold setPresence
  rw [hrec]
  dsimp only
  split <;> rfl

theorem appendAmendment_serving (a : Amendment) :
    appendAmendment a (s.serving f k) = (appendAmendment a s).serving f k := by
  have hamendments : (s.serving f k).register.amendments = s.register.amendments := rfl
  unfold appendAmendment
  rw [hamendments]
  cases s.register.amendments with
  | nil => rfl
  | cons old rest =>
    dsimp only
    split
    · rw [← reportFault_serving]
      rfl
    · rfl

theorem madePresence_serving (c : Nat) (mark : Mark) :
    madePresence c mark (s.serving f k) = (madePresence c mark s).serving f k := by
  unfold madePresence
  cases presenceOf mark with
  | none => rfl
  | some x => exact setPresence_serving s f k c x

theorem madeAmendment_serving (old : Mark) (a : Amendment) :
    madeAmendment old a (s.serving f k) = (madeAmendment old a s).serving f k := by
  unfold madeAmendment
  split
  · rfl
  · exact appendAmendment_serving s f k a

theorem leaveUnexplainedMark_serving (m : SessionMarks) (p : Proposal) (ref : PupilRef)
    (mark : Mark) : leaveUnexplainedMark m p ref mark (s.serving f k)
      = (leaveUnexplainedMark m p ref mark s).serving f k := by
  unfold leaveUnexplainedMark
  split
  · cases m.since <;> rfl
  · rfl

theorem enterUnexplained_serving (p : Proposal) (ref : PupilRef) (mark : Mark) :
    enterUnexplained p ref mark (s.serving f k) = (enterUnexplained p ref mark s).serving f k := by
  unfold enterUnexplained
  split <;> rfl

theorem setRecord_serving (c : Nat) (r : RegisterRecord) :
    setRecord c r (s.serving f k) = (setRecord c r s).serving f k := rfl

theorem recordAt_serving (c : Nat) : recordAt (s.serving f k) c = recordAt s c := rfl

theorem markOf_serving (c : Nat) (y : Session) : markOf (s.serving f k) c y = markOf s c y := rfl

theorem applyChange_serving (m : SessionMarks) (p : Proposal) (ref : PupilRef) (mark : Mark) :
    applyChange m p ref mark (s.serving f k) = (applyChange m p ref mark s).serving f k := by
  rw [applyChange_eq, applyChange_eq, recordAt_serving, setRecord_serving, madePresence_serving,
    madeAmendment_serving, leaveUnexplainedMark_serving, enterUnexplained_serving]

theorem applyRepeat_serving (m : SessionMarks) (p : Proposal) (mark : Mark) :
    applyRepeat m p mark (s.serving f k) = (applyRepeat m p mark s).serving f k := by
  unfold applyRepeat
  split <;> rfl

theorem propose_serving (q : Proposal) :
    propose q (s.serving f k) = ((propose q s).1.serving f k, (propose q s).2) := by
  have hpupil : pupilAt (s.serving f k) q.slot = pupilAt s q.slot := rfl
  cases hp : pupilAt s q.slot with
  | none => rw [propose_of_unscheduled (.inl (hpupil.trans hp)), propose_of_unscheduled (.inl hp)]
  | some p =>
    by_cases hm : markOf s q.slot q.session = .none
    · rw [propose_of_unscheduled (.inr hm),
        propose_of_unscheduled (s := s.serving f k) (.inr hm)]
    · rw [propose_of_verdict hp hm, propose_of_verdict (s := s.serving f k) hp hm, markOf_serving,
        recordAt_serving]
      cases precedence (markOf s q.slot q.session) q.source q.mark with
      | hold | conflict => rfl
      | apply =>
        dsimp only
        split
        · rw [applyRepeat_serving]
        · rw [applyChange_serving]

theorem takeSignIn_serving (r : SignInReport) :
    takeSignIn r (s.serving f k) = ((takeSignIn r s).1.serving f k, (takeSignIn r s).2) := by
  unfold takeSignIn
  cases r.proposal with
  | none =>
    dsimp only
    rw [← setPresence_serving]
    rfl
  | some q =>
    dsimp only
    rw [propose_serving, ← setPresence_serving]
    rfl

end Serving

/-! ### What a sign-in leaves, its proposal decided -/

/-- The state once a sign-in is recorded and the pupil is on site (R86). -/
def signedIn (c : Nat) (stamp : Stamp) (minutes : Option Nat) (confirmed : Bool) (d : State) : State :=
  setPresence c .onSite (setRecord c
    { recordAt d c with signIn := some stamp, minutesLate := minutes, confirmed := confirmed } d)

/-- And once its lateness accrual is asked for, where it makes one (R106). -/
def signInLeaves (c : Nat) (ref : PupilRef) (x : Session) (minutes : Option Nat) (stamp : Stamp)
    (confirmed : Bool) (d : State × Decision) : State :=
  let u := signedIn c stamp minutes confirmed d.1
  if accrues (some d.2) (markOf u c x) then askLateness ⟨c, ref, confirmed, minutes.getD 0⟩ u else u

section Leaves

variable {d : State} (c : Nat) (stamp : Stamp) (minutes : Option Nat) (confirmed : Bool)

theorem setPresence_frame (x : Presence) (s : State) : setPresence c x s = { s with
    register := { s.register with records := (setPresence c x s).register.records }
    wires := { s.wires with toRoll := (setPresence c x s).wires.toRoll } } := by
  unfold setPresence
  dsimp only
  split <;> rfl

variable (w : recordsWf d)

include w

theorem recordAt_signedIn_ne {k : Nat} (hk : k ≠ c) :
    recordAt (signedIn c stamp minutes confirmed d) k = recordAt d k := by
  obtain ⟨-, -, -, -, -, hothers, -⟩ := setPresence_spec (recordsWf_setRecord w c
    { recordAt d c with signIn := some stamp, minutesLate := minutes, confirmed := confirmed }) c .onSite
  exact (hothers k hk).trans (recordAt_setRecord_ne _ hk)

theorem recordAt_signedIn_same : recordAt (signedIn c stamp minutes confirmed d) c
    = { recordAt d c with
        presence := .onSite
        returning := decide ((recordAt d c).presence = .onSite) && (recordAt d c).returning
        signIn := some stamp, minutesLate := minutes, confirmed := confirmed } := by
  obtain ⟨-, -, -, -, -, -, hsame⟩ := setPresence_spec (recordsWf_setRecord w c
    { recordAt d c with signIn := some stamp, minutesLate := minutes, confirmed := confirmed }) c .onSite
  refine hsame.trans ?_
  rw [recordAt_setRecord_same w]
  by_cases hp : (recordAt d c).presence = .onSite <;> simp [hp]

theorem signedIn_frame : signedIn c stamp minutes confirmed d = { d with
    register := { d.register with records := (signedIn c stamp minutes confirmed d).register.records }
    wires := { d.wires with
      toRoll := if (recordAt d c).presence = .onSite then d.wires.toRoll
        else d.wires.toRoll ++ [⟨c, .onSite⟩] } } := by
  have hroll := (setPresence_trail (recordsWf_setRecord w c
    { recordAt d c with signIn := some stamp, minutesLate := minutes, confirmed := confirmed }) c .onSite).2
  rw [recordAt_setRecord_same w] at hroll
  refine (setPresence_frame c .onSite _).trans ?_
  rw [hroll]
  rfl

/-- The record of a sign-in leaves the trail. -/
theorem signedIn_trail : AmendmentsAppended [] d (signedIn c stamp minutes confirmed d) :=
  appended_nil_trans (appended_nil_setRecord w c _ fun y => by cases y <;> rfl)
    (setPresence_trail (recordsWf_setRecord w c _) c .onSite).1

theorem session_signedIn (k : Nat) (y : Session) :
    (recordAt (signedIn c stamp minutes confirmed d) k).session y = (recordAt d k).session y := by
  by_cases hk : k = c
  · rw [hk, recordAt_signedIn_same c stamp minutes confirmed w]
    cases y <;> rfl
  · rw [recordAt_signedIn_ne c stamp minutes confirmed w hk]

end Leaves

section SignInLeaves

variable (c : Nat) (ref : PupilRef) (x : Session) (minutes : Option Nat) (stamp : Stamp)
  (confirmed : Bool) (d : State × Decision)

theorem register_signInLeaves : (signInLeaves c ref x minutes stamp confirmed d).register
    = (signedIn c stamp minutes confirmed d.1).register := by
  unfold signInLeaves
  dsimp only
  split <;> rfl

theorem recordAt_signInLeaves (k : Nat) : recordAt (signInLeaves c ref x minutes stamp confirmed d) k
    = recordAt (signedIn c stamp minutes confirmed d.1) k :=
  recordAt_of_records (congrArg DayRegister.records (register_signInLeaves c ref x minutes stamp
    confirmed d)) k

theorem signInLeaves_frame (w : recordsWf d.1) :
    let t := signInLeaves c ref x minutes stamp confirmed d
    t = { d.1 with
      register := { d.1.register with records := t.register.records }
      wires := { d.1.wires with
        toRoll := if (recordAt d.1 c).presence = .onSite then d.1.wires.toRoll
          else d.1.wires.toRoll ++ [⟨c, .onSite⟩]
        lateness := d.1.wires.lateness ++ if accrues (some d.2) (markOf t c x) = true then
          [⟨c, ref, confirmed, minutes.getD 0⟩] else [] } } := by
  have hframe := signedIn_frame c stamp minutes confirmed w
  have hmark : markOf (signInLeaves c ref x minutes stamp confirmed d) c x
      = markOf (signedIn c stamp minutes confirmed d.1) c x := by
    rw [markOf, recordAt_signInLeaves]
    rfl
  dsimp only
  rw [hmark]
  unfold signInLeaves
  dsimp only
  split
  · refine (congrArg (askLateness _) hframe).trans ?_
    rfl
  · rw [List.append_nil]
    exact hframe

theorem signInLeaves_trail (w : recordsWf d.1) :
    AmendmentsAppended [] d.1 (signInLeaves c ref x minutes stamp confirmed d) := by
  refine appended_nil_trans (signedIn_trail c stamp minutes confirmed w) ?_
  unfold signInLeaves
  dsimp only
  split
  · exact appended_nil_of_register rfl rfl
  · exact appended_nil_refl _

end SignInLeaves

end RegisterLaws
end Sys2Proof.Machine
end

section
/-! SUPPORT. The decision of a sign-in's proposal, its slip, and the command (R99 to R107). -/

namespace Sys2Proof.Machine

open Sys2Proof

namespace RegisterLaws

/-! ### The decision -/

/-- What a sign-in proposes (R105). -/
def signInProposal (c : Nat) (x : Session) (arrival : ArrivalClass) (excuse : Option Excuse)
    (stamp : Stamp) : Proposal :=
  ⟨c, x, arrival.mark, .signin, stamp, none, decide (excuse = some .notice)⟩

/-- The mark a sign-in applied to a session writes (R82, R105). -/
def signInMark (s : State) (c : Nat) (x : Session) (arrival : ArrivalClass) : Mark :=
  if markOf s c x = .notified ∧ ((recordAt s c).session x).noticeIs .lateExpected = true then
    .excusedLate
  else arrival.mark

theorem signInMark_ne_notified (s : State) (c : Nat) (x : Session) (arrival : ArrivalClass) :
    signInMark s c x arrival ≠ .notified := by
  unfold signInMark
  split
  · nofun
  · cases arrival <;> nofun

section Decided

variable {s : State} {c : Nat} {x : Session} {arrival : ArrivalClass} {excuse : Option Excuse}
  {stamp : Stamp} {p : Pupil}

theorem appliedMark_signIn : appliedMark ((recordAt s c).session x)
    (signInProposal c x arrival excuse stamp) = signInMark s c x arrival := by
  unfold appliedMark signInMark
  exact if_congr (and_iff_right rfl) rfl rfl

variable (hp : pupilAt s c = some p) (hm : markOf s c x ≠ .none)

include hp hm

/-- The decision of a sign-in's proposal for a session that is one (R81). -/
theorem propose_signIn : propose (signInProposal c x arrival excuse stamp) s
    = match precedence (markOf s c x) .signin arrival.mark with
      | .hold => (s, .held)
      | .conflict => (tellMessages (.conflict c p.ref) s, .conflict)
      | .apply =>
        let m := (recordAt s c).session x
        let q := signInProposal c x arrival excuse stamp
        if signInMark s c x arrival = markOf s c x then
          (applyRepeat m q (signInMark s c x arrival) s, .repeated)
        else (applyChange m q p.ref (signInMark s c x arrival) s, .applied) := by
  have h := propose_of_verdict (q := signInProposal c x arrival excuse stamp) hp hm
  have happlied := appliedMark_signIn (s := s) (c := c) (x := x) (arrival := arrival)
    (excuse := excuse) (stamp := stamp)
  dsimp only at h ⊢
  rw [← happlied]
  exact h

theorem propose_signIn_held (hv : precedence (markOf s c x) .signin arrival.mark ≠ .apply) :
    propose (signInProposal c x arrival excuse stamp) s = (s, .held) := by
  rw [propose_signIn hp hm, precedence_of_not_apply (by decide) hv]

theorem propose_signIn_repeated (hv : precedence (markOf s c x) .signin arrival.mark = .apply)
    (hsame : signInMark s c x arrival = markOf s c x) :
    propose (signInProposal c x arrival excuse stamp) s = (s, .repeated) := by
  rw [propose_signIn hp hm, hv]
  dsimp only
  rw [if_pos hsame, applyRepeat, if_neg (signInMark_ne_notified s c x arrival)]

theorem propose_signIn_applied (hv : precedence (markOf s c x) .signin arrival.mark = .apply)
    (hnew : signInMark s c x arrival ≠ markOf s c x) :
    propose (signInProposal c x arrival excuse stamp) s
      = (applyChange ((recordAt s c).session x) (signInProposal c x arrival excuse stamp) p.ref
          (signInMark s c x arrival) s, .applied) := by
  rw [propose_signIn hp hm, hv]
  exact if_neg hnew

/-- A sign-in's proposal for a session that is one is held, applied or repeated. -/
theorem propose_signIn_scheduled :
    (propose (signInProposal c x arrival excuse stamp) s).2 ≠ .notScheduled := by
  by_cases hv : precedence (markOf s c x) .signin arrival.mark = .apply
  · by_cases hsame : signInMark s c x arrival = markOf s c x
    · rw [propose_signIn_repeated hp hm hv hsame]
      nofun
    · rw [propose_signIn_applied hp hm hv hsame]
      nofun
  · rw [propose_signIn_held hp hm hv]
    nofun

end Decided

/-! ### The slip -/

/-- The slip of a sign-in with a proposal (R107). -/
def signInSlip (t : State) (c : Nat) (p : Pupil) (x : Session) (arrival : ArrivalClass)
    (late : Option LateFigures) (excuse : Option Excuse) (stamp : Stamp) (confirmed : Bool)
    (decision : Decision) : Slip :=
  { plainSlip t c p arrival stamp confirmed with
    target := some x, late := late, excuse := excuse, outcome := some decision
    accrual := accrues (some decision) (markOf t c x)
    withheld := accrues (some decision) (markOf t c x) && !confirmed }

/-- And of one that is not scheduled (R107). -/
def unscheduledSlip (t : State) (c : Nat) (p : Pupil) (stamp : Stamp) (confirmed : Bool) : Slip :=
  { plainSlip t c p .notScheduled stamp confirmed with outcome := some .notScheduled }

section Served

variable (s : State) (f : Frame) (k : Kind) (c : Nat) (p : Pupil) (x : Session)
  (arrival : ArrivalClass) (late : Option LateFigures) (excuse : Option Excuse) (clamped : Bool)
  (stamp : Stamp) (confirmed : Bool)

theorem markOf_signInLeaves (ref : PupilRef) (minutes : Option Nat) (d : State × Decision) (y : Session) :
    markOf (signInLeaves c ref x minutes stamp confirmed d) c y
      = markOf (signedIn c stamp minutes confirmed d.1) c y := by
  rw [markOf, recordAt_signInLeaves]
  rfl

/-- A sign-in with a proposal is answered from the state it leaves. -/
theorem proposedSignIn_serving :
    let d := propose (signInProposal c x arrival excuse stamp) s
    let t := signInLeaves c p.ref x (late.map (·.minutes)) stamp confirmed d
    proposedSignIn f.port c p x arrival late excuse clamped stamp confirmed (s.serving f k)
      = State.replied f k (slipStatus (some d.2)) clamped
          (.slip (if d.2 = .notScheduled then unscheduledSlip t c p stamp confirmed
            else signInSlip t c p x arrival late excuse stamp confirmed d.2)) t := by
  dsimp only
  unfold proposedSignIn
  generalize hd : propose (signInProposal c x arrival excuse stamp) s = d
  have htaken : takeSignIn ⟨c, stamp, confirmed, late.map (·.minutes),
        some ⟨c, x, arrival.mark, .signin, stamp, none, decide (excuse = some .notice)⟩⟩ (s.serving f k)
      = ((signedIn c stamp (late.map (·.minutes)) confirmed d.1).serving f k, some d.2) := by
    rw [takeSignIn_serving, ← hd]
    rfl
  dsimp only
  rw [htaken]
  have hleaves : (if accrues (some d.2)
          (markOf ((signedIn c stamp (late.map (·.minutes)) confirmed d.1).serving f k) c x) = true then
        askLateness ⟨c, p.ref, confirmed, (late.map (·.minutes)).getD 0⟩
          ((signedIn c stamp (late.map (·.minutes)) confirmed d.1).serving f k)
      else (signedIn c stamp (late.map (·.minutes)) confirmed d.1).serving f k)
      = (signInLeaves c p.ref x (late.map (·.minutes)) stamp confirmed d).serving f k := by
    unfold signInLeaves
    dsimp only
    rw [markOf_serving]
    split <;> rfl
  dsimp only
  rw [hleaves, answer_serving, markOf_serving]
  rw [← markOf_signInLeaves c x stamp confirmed p.ref (late.map (·.minutes)) d x]
  by_cases hn : d.2 = .notScheduled
  · rw [if_pos (congrArg some hn), if_pos hn, hn]
    rfl
  · rw [if_neg fun he => hn (Option.some.inj he), if_neg hn]
    rfl

/-! ### The command -/

/-- A state with another first-fault record. -/
def withFault (s : State) (fault : Option FaultRecord) (more : MoreFlags) : State :=
  { s with link := { s.link with fault := fault, more := more } }

/-- The retry report of a SIGN-IN moves the first-fault record alone (R99, R169). -/
theorem afterRetry_eq (s : State) (f : Frame) (r : SignInReq) :
    ∃ fault more, s.afterRetry f r = withFault s fault more := by
  have hreport : ∀ q : FaultRecord, ∃ fault more, reportFault q s = withFault s fault more := fun q => by
    unfold reportFault
    split
    · exact ⟨s.link.fault, s.link.more, rfl⟩
    · split
      · exact ⟨_, s.link.more, rfl⟩
      · exact ⟨s.link.fault, _, rfl⟩
  unfold State.afterRetry
  split
  · exact hreport _
  · exact ⟨s.link.fault, s.link.more, rfl⟩
  · exact ⟨s.link.fault, s.link.more, rfl⟩

end Served

section Exec

variable {s : State} {f : Frame} {r : SignInReq} {c : Nat} {p : Pupil} {x : Session}
  {arrival : ArrivalClass} {late : Option LateFigures} {excuse : Option Excuse} {clamped : Bool}
  {confirmed : Bool}

/-- A SIGN-IN of a pupil it identifies goes to the pupil's slot once the retry report is taken (R99,
R100). -/
theorem takeSignInRequest_of_names (k : Kind) (h : signInNames s f r c p confirmed) :
    takeSignInRequest f.port r (s.serving f k)
      = takeArrival f.port c p confirmed ((s.afterRetry f r).serving f k) := by
  have hrole : ((s.serving f k).port f.port).role = (s.port f.port).role := by
    rw [State.serving, port_setPort_self]
    rfl
  unfold takeSignInRequest
  rw [hrole]
  obtain ⟨hkiosk, rfl, card, window, ⟨retry, rfl⟩, hlow, hhigh, hmatch⟩
    | ⟨hdesk, rfl, ref, rfl, hlookup⟩ := h
  · have hwithin : within 1 16777215 card = true := by simp [within, hlow, hhigh]
    have hretry : reportRetry f.port card retry (s.serving f k)
        = (s.afterRetry f (.byCard card retry)).serving f k := by
      cases retry with
      | false => rfl
      | true => exact reportFault_serving s f k _
    have hcard : cardMatch ((s.afterRetry f (.byCard card retry)).serving f k) card
        = .matched c window p := by
      obtain ⟨fault, more, hafter⟩ := afterRetry_eq s f (.byCard card retry)
      rw [hafter]
      exact hmatch
    rw [hkiosk]
    dsimp only
    rw [takeCard, if_pos hwithin, hretry]
    dsimp only
    rw [hcard]
  · have hfound : lookup (s.serving f k) ref = some (c, p) := hlookup
    rw [hdesk]
    dsimp only
    rw [hfound]
    rfl

/-- A pupil with no earlier sign-in standing, whose class proposes a mark (R100 to R105). -/
theorem takeArrival_of_proposal (q : PortId)
    (hon : (recordAt s c).presence = .onSite → (recordAt s c).signIn = none)
    (hoff : (recordAt s c).presence = .offSite → (recordAt s c).returning = false)
    (hclass : classify s c p (now s) = .present ∧ x = .am ∧ arrival = .present ∧ late = none
        ∧ excuse = none ∧ clamped = false
      ∨ ∃ g, classify s c p (now s) = .late x arrival g excuse clamped ∧ late = some g) :
    takeArrival q c p confirmed s
      = proposedSignIn q c p x arrival late excuse clamped (now s) confirmed s := by
  unfold takeArrival
  dsimp only
  split
  next hp hs => rw [hon hp] at hs; cases hs
  next hp hr => rw [hoff hp] at hr; cases hr
  next =>
    obtain ⟨hpresent, rfl, rfl, rfl, rfl, rfl⟩ | ⟨g, hlate, rfl⟩ := hclass
    · rw [hpresent]
    · rw [hlate]

theorem exec_signIn_of_proposal (hready : Ready s f .signIn) (hday : s.day.state = .open)
    (hnames : signInNames s f r c p confirmed)
    (hon : (recordAt s c).presence = .onSite → (recordAt s c).signIn = none)
    (hoff : (recordAt s c).presence = .offSite → (recordAt s c).returning = false)
    (hclass : classify s c p (now s) = .present ∧ x = .am ∧ arrival = .present ∧ late = none
        ∧ excuse = none ∧ clamped = false
      ∨ ∃ g, classify s c p (now s) = .late x arrival g excuse clamped ∧ late = some g) :
    let d := propose (signInProposal c x arrival excuse (now s)) (s.afterRetry f r)
    let t := signInLeaves c p.ref x (late.map (·.minutes)) (now s) confirmed d
    exec (.signIn f r) s = .next (State.replied f .signIn (slipStatus (some d.2)) clamped
      (.slip (if d.2 = .notScheduled then unscheduledSlip t c p (now s) confirmed
        else signInSlip t c p x arrival late excuse (now s) confirmed d.2)) t) := by
  have he : exec (.signIn f r) s = .next (serveSignIn f.port r (s.serving f .signIn)) :=
    request_of_ready hready _
  have harrival : takeArrival f.port c p confirmed ((s.afterRetry f r).serving f .signIn)
      = proposedSignIn f.port c p x arrival late excuse clamped (now s) confirmed
        ((s.afterRetry f r).serving f .signIn) := by
    obtain ⟨fault, more, hafter⟩ := afterRetry_eq s f r
    rw [hafter]
    exact takeArrival_of_proposal f.port hon hoff hclass
  dsimp only
  rw [he, serveSignIn, TimetableLaws.gateOpen_of_open (s := s.serving f .signIn) _ _ _ hday,
    takeSignInRequest_of_names .signIn hnames, harrival]
  exact congrArg _ (proposedSignIn_serving _ f .signIn c p x arrival late excuse clamped (now s) confirmed)

end Exec

/-! ### What a decided sign-in leaves -/

section Settled

variable {s : State} {c : Nat} {p : Pupil} {x : Session} {arrival : ArrivalClass}
  {excuse : Option Excuse} {stamp : Stamp} (ref : PupilRef) (minutes : Option Nat) (confirmed : Bool)
  (d : State × Decision)

theorem session_signInLeaves (w : recordsWf d.1) (k : Nat) (y : Session) :
    (recordAt (signInLeaves c ref x minutes stamp confirmed d) k).session y
      = (recordAt d.1 k).session y := by
  rw [recordAt_signInLeaves, session_signedIn c stamp minutes confirmed w]

/-- The record of the pupil who has signed in (R86). -/
theorem recordAt_signInLeaves_same (w : recordsWf d.1) :
    recordAt (signInLeaves c ref x minutes stamp confirmed d) c
    = { recordAt d.1 c with
        presence := .onSite
        returning := decide ((recordAt d.1 c).presence = .onSite) && (recordAt d.1 c).returning
        signIn := some stamp, minutesLate := minutes, confirmed := confirmed } := by
  rw [recordAt_signInLeaves, recordAt_signedIn_same c stamp minutes confirmed w]

theorem lateness_signInLeaves (w : recordsWf d.1) :
    (signInLeaves c ref x minutes stamp confirmed d).wires.lateness = d.1.wires.lateness
      ++ if accrues (some d.2) (markOf (signInLeaves c ref x minutes stamp confirmed d) c x) = true then
        [⟨c, ref, confirmed, minutes.getD 0⟩] else [] :=
  congrArg (fun v => v.wires.lateness) (signInLeaves_frame c ref x minutes stamp confirmed d w)

/-- What a sign-in leaves of the state, whatever its decision. -/
theorem onlyVisited_signInLeaves (w : recordsWf d.1) (h : onlyVisited s d.1) :
    let t := signInLeaves c ref x minutes stamp confirmed d
    t = { s with register := t.register, wires := t.wires,
                 link := { s.link with fault := t.link.fault, more := t.link.more } }
      ∧ t.register.walker = s.register.walker := by
  have hleaves := signInLeaves_frame c ref x minutes stamp confirmed d w
  dsimp only at hleaves ⊢
  generalize signInLeaves c ref x minutes stamp confirmed d = t at hleaves
  unfold onlyVisited at h
  refine ⟨?_, ?_⟩
  · rw [hleaves, h]
  · rw [hleaves, h]

end Settled

section Cases

variable {s : State} {c : Nat} {p : Pupil} {x : Session} {arrival : ArrivalClass}
  {excuse : Option Excuse} {stamp : Stamp} {minutes : Option Nat} {confirmed : Bool} (w : recordsWf s)

include w

/-- A sign-in for a session that is none is recorded, and that is all (R86). -/
theorem signInLeaves_unscheduled :
    let t := signInLeaves c p.ref x minutes stamp confirmed (s, .notScheduled)
    t = { s with
        register := { s.register with records := t.register.records }
        wires := { s.wires with
          toRoll := if (recordAt s c).presence = .onSite then s.wires.toRoll
            else s.wires.toRoll ++ [⟨c, .onSite⟩] } }
      ∧ ∀ k, k ≠ c → recordAt t k = recordAt s k := by
  have hleaves := signInLeaves_frame c p.ref x minutes stamp confirmed (s, .notScheduled) w
  dsimp only at hleaves ⊢
  rw [if_neg (by simp [accrues]), List.append_nil] at hleaves
  exact ⟨hleaves, fun k hk => (recordAt_signInLeaves ..).trans
    (recordAt_signedIn_ne c stamp minutes confirmed w hk)⟩

variable (hp : pupilAt s c = some p) (hm : markOf s c x ≠ .none)

include hp hm

/-- A held proposal leaves the session and asks for no accrual (R106). -/
theorem signInLeaves_held (hv : precedence (markOf s c x) .signin arrival.mark ≠ .apply) :
    let d := propose (signInProposal c x arrival excuse stamp) s
    let t := signInLeaves c p.ref x minutes stamp confirmed d
    d.2 = .held ∧ t.wires.lateness = s.wires.lateness
      ∧ accrues (some d.2) (markOf t c x) = false
      ∧ (recordAt t c).session x = (recordAt s c).session x := by
  dsimp only
  rw [propose_signIn_held hp hm hv]
  refine ⟨rfl, ?_, rfl, session_signInLeaves _ _ _ _ w _ _⟩
  rw [lateness_signInLeaves _ _ _ _ w, if_neg (by simp [accrues]), List.append_nil]

/-- An applied proposal writes the session's fields and the trail, and asks for an accrual where its mark is
LATE or LATE_CLOSED (R82, R92, R93, R106). -/
theorem signInLeaves_applied (hv : precedence (markOf s c x) .signin arrival.mark = .apply)
    (hnew : signInMark s c x arrival ≠ markOf s c x) :
    let d := propose (signInProposal c x arrival excuse stamp) s
    let t := signInLeaves c p.ref x minutes stamp confirmed d
    let m := (recordAt s c).session x
    let q := signInProposal c x arrival excuse stamp
    d.2 = .applied ∧ (recordAt t c).session x = { changedMarks m q (signInMark s c x arrival) with
        trailGap := ((recordAt t c).session x).trailGap }
      ∧ AmendmentsAppended (if markOf s c x = .blank then []
        else [⟨c, x, markOf s c x, signInMark s c x arrival, .signin, stamp⟩]) s t := by
  dsimp only
  rw [propose_signIn_applied hp hm hv hnew]
  obtain ⟨hmarks, hwf, -, hrec, htrail, -⟩ := applyChange_all w
    (signInProposal c x arrival excuse stamp) p.ref (signInMark s c x arrival)
  refine ⟨rfl, ?_, ?_⟩
  · rw [session_signInLeaves _ _ _ _ hwf]
    refine (hrec.session x).trans ?_
    cases x <;> rfl
  · exact appendeds_congr (appended_nil_refl s) rfl rfl
      (signInLeaves_trail _ _ _ _ _ _ _ hwf) htrail

omit hp hm in
/-- Whatever the decision, no other mark changes (R86). -/
theorem markOf_signInLeaves_ne (k : Nat) (y : Session) (hk : k ≠ c ∨ y ≠ x) :
    markOf (signInLeaves c p.ref x minutes stamp confirmed
      (propose (signInProposal c x arrival excuse stamp) s)) k y = markOf s k y := by
  obtain ⟨-, hwf, hothers, hsession, -⟩ := propose_spec w (signInProposal c x arrival excuse stamp)
  refine (congrArg SessionMarks.mark (session_signInLeaves _ _ _ _ hwf k y)).trans ?_
  by_cases hc : k = c
  · rw [hc]
    exact hsession y (hk.resolve_left (not_not.2 hc))
  · exact (hothers k hc).mark y

end Cases

/-- The fields a sign-in's applied change writes (R82). -/
theorem changedMarks_signIn {m : SessionMarks} {c : Nat} {x : Session} {arrival : ArrivalClass}
    {excuse : Option Excuse} {stamp : Stamp} {mark : Mark} (hmark : mark ≠ .notified) :
    let n := changedMarks m (signInProposal c x arrival excuse stamp) mark
    n.mark = mark ∧ n.lastSource = some .signin ∧ n.lastChange = some stamp
      ∧ n.expectedLate = (m.expectedLate || (mark == .excusedLate && (excuse == some .notice
          || (m.mark == .notified && m.noticeIs .lateExpected))))
      ∧ n.notice = if m.mark = .notified ∧ m.noticeIs .absent = true then none else m.notice := by
  have hexcuse : (excuse == some .notice) = decide (excuse = some .notice) :=
    Bool.eq_iff_iff.2 (by simp)
  refine ⟨rfl, rfl, rfl, ?_, ?_⟩
  · rw [hexcuse]
    rfl
  · exact (if_neg hmark).trans (if_congr (and_iff_right rfl) rfl rfl)

theorem appended_of_appendeds_singleton {s t : State} {a : Amendment}
    (h : AmendmentsAppended [a] s t) : AmendmentAppended s t a := by
  obtain ⟨u, -, -, happended, hnil⟩ := h
  exact appended_congr (appended_nil_refl s) rfl rfl hnil happended

theorem getLast?_of_appended {s t : State} {a : Amendment} (h : AmendmentAppended s t a) :
    t.register.amendments.getLast? = some a := by
  obtain ⟨hroom, hfull⟩ := h
  by_cases hl : s.register.amendments.length < 256
  · rw [(hroom hl).1, List.getLast?_concat]
  · cases hlist : s.register.amendments with
    | nil => simp [hlist] at hl
    | cons old rest => rw [(hfull old rest hlist (by omega)).1, List.getLast?_concat]

/-- A sign-in whose session is none (R80, R86, R107). -/
theorem signIn_unscheduled_settled {s : State} {c : Nat} {p : Pupil} {x : Session} {stamp : Stamp}
    {minutes : Option Nat} {confirmed : Bool} (w : recordsWf s) :
    let t := signInLeaves c p.ref x minutes stamp confirmed (s, .notScheduled)
    unscheduledSlip t c p stamp confirmed
        = { slot := c, ref := p.ref, cohort := p.cohort, tutor := p.tutor, arrival := .notScheduled,
            target := none, stamp := stamp, confirmed := confirmed, late := none, excuse := none,
            outcome := some .notScheduled, accrual := false, withheld := false,
            am := markOf s c .am, pm := markOf s c .pm }
      ∧ t = { s with
          register := { s.register with records := t.register.records }
          wires := { s.wires with
            toRoll := if (recordAt s c).presence = .onSite then s.wires.toRoll
              else s.wires.toRoll ++ [⟨c, .onSite⟩] } }
      ∧ recordAt t c = { recordAt s c with
          presence := .onSite, signIn := some stamp, minutesLate := minutes
          returning := decide ((recordAt s c).presence = .onSite) && (recordAt s c).returning
          confirmed := confirmed }
      ∧ ∀ k, k ≠ c → recordAt t k = recordAt s k := by
  obtain ⟨hframe, hothers⟩ := signInLeaves_unscheduled (c := c) (p := p) (x := x) (stamp := stamp)
    (minutes := minutes) (confirmed := confirmed) w
  refine ⟨?_, hframe, recordAt_signInLeaves_same _ _ _ _ w, hothers⟩
  have hmark : ∀ y, markOf (signInLeaves c p.ref x minutes stamp confirmed (s, .notScheduled)) c y
      = markOf s c y := fun y => congrArg SessionMarks.mark (session_signInLeaves _ _ _ _ w c y)
  rw [unscheduledSlip, plainSlip, hmark, hmark]

/-- Settles O47: the retry report moves the first-fault record alone; the proposal is then decided, and the
sign-in recorded over it. -/
theorem signInsAreMarkedAndAnswered : Obligations.SignInsAreMarkedAndAnswered := by
  intro s f r slot p confirmed x arrival figures excuse clamped hready hcanonical hday hnames hpupil hon
    hoff hclass
  have hexec := exec_signIn_of_proposal hready hday hnames hon hoff hclass
  obtain ⟨fault, more, hafter⟩ := afterRetry_eq s f r
  rw [hafter] at hexec ⊢
  have w : recordsWf (withFault s fault more) := recordsWf_of_canonical hcanonical
  refine ⟨fun hnone => ?_, fun hmark => ?_⟩
  · rw [propose_of_unscheduled (s := withFault s fault more)
      (q := signInProposal slot x arrival excuse (now s)) (.inr hnone)] at hexec
    obtain ⟨hslip, hsettled⟩ := signIn_unscheduled_settled (c := slot) (p := p) (x := x)
      (stamp := now s) (minutes := figures.map (·.minutes)) (confirmed := confirmed) w
    dsimp only at hexec
    rw [if_pos rfl, hslip] at hexec
    exact ⟨_, hexec, hsettled⟩
  dsimp only at hexec
  rw [if_neg (propose_signIn_scheduled (s := withFault s fault more) hpupil hmark)] at hexec
  obtain ⟨hmarks, hwf, -⟩ := propose_spec w (signInProposal slot x arrival excuse (now s))
  obtain ⟨hframe, hwalker⟩ := onlyVisited_signInLeaves (c := slot) (x := x) (stamp := now s) p.ref
    (figures.map (·.minutes)) confirmed _ hwf (onlyVisited_of_marksOnly hmarks)
  have hrecord := recordAt_signInLeaves_same (c := slot) (x := x) (stamp := now s) p.ref
    (figures.map (·.minutes)) confirmed _ hwf
  have hlateness := lateness_signInLeaves (c := slot) (x := x) (stamp := now s) p.ref
    (figures.map (·.minutes)) confirmed _ hwf
  refine ⟨_, _, signInMark s slot x arrival, _, hexec, hframe, hwalker, rfl, rfl, rfl, rfl, rfl, rfl, rfl,
    rfl, rfl, rfl, rfl, rfl, by rw [hrecord], by rw [hrecord], by rw [hrecord], by rw [hrecord],
    markOf_signInLeaves_ne w, rfl, fun hv => ?_, fun hv hnew => ?_⟩
  · obtain ⟨hheld, hnone, haccrual, hsession⟩ := signInLeaves_held (c := slot) (x := x)
      (arrival := arrival) (excuse := excuse) (stamp := now s) (minutes := figures.map (·.minutes))
      (confirmed := confirmed) w hpupil hmark hv
    exact ⟨congrArg SessionMarks.mark hsession, congrArg some hheld,
      congrArg (fun d => slipStatus (some d)) hheld, hnone, haccrual,
      (congrArg (· && !confirmed) haccrual).trans (Bool.false_and _), hsession⟩
  · obtain ⟨happlied, hsession, htrail⟩ := signInLeaves_applied (c := slot) (x := x)
      (arrival := arrival) (excuse := excuse) (stamp := now s) (minutes := figures.map (·.minutes))
      (confirmed := confirmed) w hpupil hmark hv hnew
    obtain ⟨-, hsource, hchange, hexpected, hnotice⟩ := changedMarks_signIn
      (m := (recordAt s slot).session x) (c := slot) (x := x) (arrival := arrival) (excuse := excuse)
      (stamp := now s) (signInMark_ne_notified s slot x arrival)
    have hmarked := congrArg SessionMarks.mark hsession
    have haccrual : accrues (some (propose (signInProposal slot x arrival excuse (now s))
        (withFault s fault more)).2) (markOf (signInLeaves slot p.ref x (figures.map (·.minutes))
          (now s) confirmed (propose (signInProposal slot x arrival excuse (now s))
            (withFault s fault more))) slot x) = true
        ↔ signInMark s slot x arrival = .late ∨ signInMark s slot x arrival = .lateClosed := by
      rw [happlied, show markOf _ _ _ = signInMark s slot x arrival from hmarked]
      simp [accrues]
    refine ⟨hmarked, congrArg some happlied, congrArg (fun d => slipStatus (some d)) happlied,
      (congrArg SessionMarks.lastSource hsession).trans hsource,
      (congrArg SessionMarks.lastChange hsession).trans hchange,
      (congrArg SessionMarks.expectedLate hsession).trans hexpected,
      (congrArg SessionMarks.notice hsession).trans hnotice, haccrual, ?_, fun hlate => ?_,
      fun hlate hclosed => ?_, fun hblank => ?_⟩
    · show (accrues _ _ && !confirmed) = true ↔ accrues _ _ = true ∧ confirmed = false
      rw [Bool.and_eq_true, Bool.not_eq_true']
    · rw [hlateness, if_pos (haccrual.2 hlate), hmarks.lateness]
      rfl
    · rw [hlateness, if_neg fun h => (haccrual.1 h).elim hlate hclosed, hmarks.lateness,
        List.append_nil]
      rfl
    · rw [if_neg (show markOf (withFault s fault more) slot x ≠ .blank from hblank)] at htrail
      have happended := appended_of_appendeds_singleton htrail
      exact ⟨getLast?_of_appended happended, happended⟩

end RegisterLaws
end Sys2Proof.Machine
end
